-- ==== Sys2Proof/Word.lean ====
section
/-!
DEFINITION. The byte and the wider unsigned words that cross the client ports (spec/11, Table 11-1).
-/

namespace Sys2Proof

/-- A byte on a client port's line (spec/11 11.1). -/
abbrev Byte := BitVec 8

/-- A 16-bit payload field (spec/11 Table 11-4, Table 11-6). -/
abbrev Half := BitVec 16

/-- A 32-bit payload field or sequence number (spec/11 Table 11-4, spec/10 R194). -/
abbrev Word32 := BitVec 32

/-- A reading of the turbidity sensor, 0..1023 (spec/01 R27). -/
abbrev Turbidity := BitVec 10

/-- A set of the eighteen notice kinds, numbered from bit 0 in the order of spec/10 Table 10-1 (spec/11 R202). -/
abbrev KindSet := BitVec 18

end Sys2Proof
end

