-- ==== Sys2Proof/Syntax.lean ====
section
/-!
DEFINITION. The commands the D41 takes, one constructor of `Instr` per row of spec/opcode_table.json.
-/

namespace Sys2Proof

/-- The three client ports (spec/11, introduction). -/
inductive Port where
  | panel | link | service
  deriving DecidableEq, Repr

/-- The two bulk reservoirs: D detergent, R rinse aid (spec/06). -/
inductive Reservoir where
  | detergent | rinseAid
  deriving DecidableEq, Repr

/-- The debounced inputs of spec/08 Table 8-1, in its order. -/
inductive SwitchInput where
  | door | home | level | overfill | leak | salt | lowD | lowR | capD | capR | strokeD | strokeR
  | detent | index | inhibit | powerFail | servicePresent | wakeKey
  deriving DecidableEq, Repr

/-- The payload of QUEUE PHASE: the fields of spec/11 Table 11-6, an absent field being none. -/
structure PhaseFields where
  tag : Byte
  kind : Byte
  fillVolume : Option Half
  heatTarget : Option Byte
  holdTime : Option Half
  zones : Option Byte
  pumpLevel : Option Byte
  openSlot : Option Byte
  airing : Option Half
  detergent : Bool
  rinseAid : Bool
  soilSample : Bool
  regenWindow : Bool
  deriving DecidableEq, Repr

/-- The client requests of spec/11 Table 11-4, with their payloads. -/
inductive Request where
  | readStatus (page part : Byte)
  | readRecord (page part : Byte)
  | readResults (n : Word32)
  | readNotices
  | readFaults
  | readPosition (part : Byte)
  | queuePhase (f : PhaseFields)
  | start (delay : Half)
  | armRemote
  | disarmRemote
  | remoteStart
  | pause
  | resume
  | cancel
  | regenerate
  | setHardness (h : Byte)
  | setRinseLevel (l : Byte)
  | ackNotices
  | setNoticeMask (kinds : BitVec 24)
  | enterQuiet
  | setWakeSources (sources : Byte)
  | takeHold
  | releaseHold
  | enterService
  | leaveService
  | overrideOutput (output value : Byte)
  | moveRod (slot : Byte)
  | referenceRod
  | writeCalibration (item slot : Byte) (value : Word32)
  | clearFaults
  | storeNow
  | restart (mark : Byte)
  deriving DecidableEq, Repr

/-- The commands: the rows of spec/opcode_table.json in the table's order. The table gives no operands; each
constructor carries what its rule needs (log 4). A request carries the port it arrives on and its payload
(spec/11 R202). -/
inductive Instr where
  | readStatus (p : Port) (page part : Byte)
  | readRecord (p : Port) (page part : Byte)
  | readResults (p : Port) (n : Word32)
  | readNotices (p : Port)
  | readFaults (p : Port)
  | readPosition (p : Port) (part : Byte)
  | queuePhase (p : Port) (f : PhaseFields)
  | start (p : Port) (delay : Half)
  | armRemote (p : Port)
  | disarmRemote (p : Port)
  | remoteStart (p : Port)
  | pause (p : Port)
  | resume (p : Port)
  | cancel (p : Port)
  | regenerate (p : Port)
  | setHardness (p : Port) (h : Byte)
  | setRinseLevel (p : Port) (l : Byte)
  | ackNotices (p : Port)
  | setNoticeMask (p : Port) (kinds : BitVec 24)
  | enterQuiet (p : Port)
  | setWakeSources (p : Port) (sources : Byte)
  | takeHold (p : Port)
  | releaseHold (p : Port)
  | enterService (p : Port)
  | leaveService (p : Port)
  | overrideOutput (p : Port) (output value : Byte)
  | moveRod (p : Port) (slot : Byte)
  | referenceRod (p : Port)
  | writeCalibration (p : Port) (item slot : Byte) (value : Word32)
  | clearFaults (p : Port)
  | storeNow (p : Port)
  | restart (p : Port) (mark : Byte)
  /-- A byte ends on the line; `stop` says whether it came with its stop bit (spec/11 R197). -/
  | byteReceived (p : Port) (b : Byte) (stop : Bool)
  | interByteGapExpiry (p : Port)
  | answerSent (p : Port)
  | powerOn
  | resetPin
  | checkpointComplete
  | powerFailWarning
  | operatingMinute
  /-- The raw line of an input takes the level `v`; for the leak float `v` is "switch closed", for the others
  `v` is the input's asserted sense (spec/08 R153, R155). -/
  | rawSwitchChange (i : SwitchInput) (v : Bool)
  | startDelayExpiry
  | doorQualificationExpiry
  | waterRetryExpiry
  | flowPulse
  | settleWindowExpiry
  | fillStall
  /-- A reading is taken of a sensor value given in half degrees (spec/03 R52). -/
  | temperatureReading (halfDegrees : Int)
  | sensorTemp
  | riseCheckExpiry
  /-- The hold timer expires; `turbidity` is what the sensor reads if a soil sample is then taken (spec/03 R59, spec/01 R27). -/
  | holdTimerExpiry (turbidity : Turbidity)
  | detentPulse
  | indexPulse
  | alternateSwitchExpiry
  | diverterStall
  | levelSwitchChange (water : Bool)
  | drainTailExpiry
  | drainBlocked
  | brineFillRequest
  | dissolveExpiry
  | flushEntry
  | flushTimerExpiry
  | standAloneTailExpiry
  | saltSwitchChange (noSalt : Bool)
  | strokePulse (r : Reservoir)
  | strokeTimeout (r : Reservoir)
  | lowSwitchChange (r : Reservoir) (low : Bool)
  | capSwitchChange (r : Reservoir) (isOpen : Bool)
  | refillWatchExpiry (r : Reservoir)
  /-- The encoder line pair takes the state `a`, `b` (spec/07 R130). -/
  | encoderEvent (a b : Bool)
  | homeSwitchChange (closed : Bool)
  | approachTimeLimit
  | settleTimerExpiry
  | motionStall
  | retryWaitExpiry
  | dryWaitExpiry
  | airingExpiry
  | doorSwitchChange (closed : Bool)
  | leakOnset
  | leakEnd
  | afterRunExpiry
  | overfillOnset
  | overfillSwitchOpen
  | overfillOpenExpiry
  | inhibitAssertion
  | inhibitRelease
  | wakeKeyPress
  | servicePresentChange (present : Bool)
  | debouncedStateSilentUpdate (i : SwitchInput) (v : Bool)
  deriving DecidableEq, Repr

end Sys2Proof
end

