-- ==== Sys2Proof/Decode.lean ====
section
/-!
DEFINITION. The command that a word spells. spec/opcode_table.json gives no row any bits (the D41's requests are frames of
spec/11, the other commands are events), so no word spells a command (log 4).
-/

namespace Sys2Proof

/-- No row of the table has bits: every word spells no command (log 4). -/
def decodeTableWord (_nbits _w : Nat) : Option Instr := none

end Sys2Proof
end

