-- ==== Sys2Proof/Config.lean ====
section
/-!
DEFINITION. What the manual leaves open and no command settles: free values, each an opaque constant of which
nothing can be proved.
-/

namespace Sys2Proof

/-- FREE VALUE (log 7): what the turbidity sensor reads at the n-th soil sample that no command carries a reading
for (spec/01 R27: "takes one reading of the turbidity sensor (0..1023)"). -/
opaque Config.turbidity : Nat → Turbidity

end Sys2Proof
end

