-- ==== Sys2Proof/Machine/State.lean ====
section
/-!
DEFINITION. The state of the D41: plain data, one structure per block of spec/00_scope.md 2.1, and the state after
reset. Timers are in milliseconds (log 24); a timer that may be stopped is an `Option`.
-/

namespace Sys2Proof.Machine

/-! ### Program controller (spec/01) -/

/-- Table 1-2. -/
inductive ProgState where
  | idle | ready | delayed | running | cancelling | faulted
  deriving DecidableEq, Repr

/-- The five phase kinds of R1. -/
inductive PhaseKind where
  | pre | main | inter | finalRinse | dry
  deriving DecidableEq, Repr

/-- The spray zones of Table 1-1. -/
inductive Zones where
  | both | lower | upper | alternate
  deriving DecidableEq, Repr

/-- A stored phase record: the fields of Table 1-1, an absent field being none or clear. Volumes in mL, times in s,
the heat target in half degrees. -/
structure PhaseRecord where
  tag : Byte
  kind : PhaseKind
  fillVolume : Option Nat
  heatTarget : Option Nat
  holdTime : Nat
  zones : Option Zones
  pumpLevel : Option Nat
  detergent : Bool
  rinseAid : Bool
  soilSample : Bool
  regenWindow : Bool
  openSlot : Option Nat
  airing : Option Nat
  deriving DecidableEq, Repr

/-- The stages of R18 and R20. -/
inductive Stage where
  | filling | dosing | heating | holding | draining | dryWait | opening | airing | retracting
  deriving DecidableEq, Repr

/-- A report that ends a stage, kept while the phase is suspended (R21): a wet stage's work is finished, or the
door-opener unit names the next DRY stage, or DONE (R20). -/
inductive StageEnd where
  | finished
  | goto (next : Stage)
  | done
  deriving DecidableEq, Repr

/-- What the running phase holds beyond its record: its stage, the kept report, its age in ms (R28), its peak
temperature in half degrees (R54), whether HEATING reached its target (R55), two result flags (R28) and the soil
class it recorded (R27). -/
structure RunningPhase where
  stage : Stage
  stageEnd : Option StageEnd
  age : Nat
  peak : Nat
  heated : Bool
  heatMissed : Bool
  heatSkipped : Bool
  sample : Option (Fin 4)
  deriving DecidableEq, Repr

/-- The hold-cause set of R22. -/
structure HoldSet where
  request : Bool
  door : Bool
  water : Bool
  inlet : Bool
  regen : Bool
  inhibit : Bool
  deriving DecidableEq, Repr

/-- The program controller (Table 1-4). The record of the running phase is the head of `queue` (R4). -/
structure Program where
  state : ProgState
  queue : List PhaseRecord
  phase : Option RunningPhase
  holds : HoldSet
  arm : Bool
  delay : Option Nat
  tankWet : Bool
  soilClass : Fin 4
  stallCount : Nat
  retry : Option Nat
  doorQual : Nat
  deriving DecidableEq, Repr

/-! ### Water intake (spec/02) -/

/-- The inlet clients, in the order of R34. -/
inductive Client where
  | wash | brine | rinse
  deriving DecidableEq, Repr

/-- The softener's two clients (R37). -/
inductive SoftClient where
  | brine | rinse
  deriving DecidableEq, Repr

/-- Whose fill a settle window belongs to (R38, R48). -/
inductive WindowOwner where
  | wash | brine | rinse | service
  deriving DecidableEq, Repr

/-- R36. -/
inductive FillEnding where
  | target | overfill | cancelled
  deriving DecidableEq, Repr

/-- Origin of a fill record (Table 2-2). -/
inductive FillOrigin where
  | wash | service
  deriving DecidableEq, Repr

/-- A fill record (Table 2-2) with its counter (R34): `p` pulses, volumes in mL. `isFinal` is the field "final". -/
structure FillRecord where
  origin : FillOrigin
  target : Option Nat
  q : Nat
  p : Nat
  v : Nat
  vSoft : Nat
  vHard : Nat
  ending : Option FillEnding
  isFinal : Bool
  deriving DecidableEq, Repr

/-- The counter of a brine fill or a resin rinse (R34). -/
structure SoftCounter where
  target : Nat
  q : Nat
  p : Nat
  v : Nat
  ending : Option FillEnding
  deriving DecidableEq, Repr

/-- A running settle window (R38): its owner, its remaining ms, the counter of a released softener fill, and the
owner's fill record when a newer record has replaced it as the current one (R35, log 14). -/
structure SettleWindow where
  owner : WindowOwner
  left : Nat
  counter : Option SoftCounter
  kept : Option FillRecord
  deriving DecidableEq, Repr

/-- Water intake (Table 2-3). `softCounter` is the counter of the softener's place at the arbiter, as waiter or
holder. `arrivals` are the clock times of the latest unattributed pulses, oldest first (R46). `inletOpen` is the model's
own: the inlet valve's final state when the outputs were last formed, by which an opening is told (R13, log 49). -/
structure Water where
  holder : Option Client
  waitWash : Bool
  waitSoft : Option SoftClient
  window : Option SettleWindow
  record : Option FillRecord
  softCounter : Option SoftCounter
  stall : Nat
  unattributed : Nat
  arrivals : List Nat
  inletOpen : Bool
  deriving DecidableEq, Repr

/-! ### Thermal and circulation unit (spec/03) -/

/-- The rise-check window of R57: elapsed ms and the reference in half degrees. -/
structure RiseWindow where
  elapsed : Nat
  reference : Nat
  deriving DecidableEq, Repr

/-- The zone a circulating phase asks for (R65). -/
inductive WantedZone where
  | both | lower | upper
  deriving DecidableEq, Repr

/-- R68. -/
inductive DrainKind where
  | phase | cancel
  deriving DecidableEq, Repr

/-- Table 3-3. -/
inductive DrainState where
  | pumping | tailing | dryHeld
  deriving DecidableEq, Repr

/-- A drain job (R68). -/
structure DrainJob where
  kind : DrainKind
  state : DrainState
  tail : Nat
  timeout : Nat
  window : Bool
  deriving DecidableEq, Repr

/-- The thermal and circulation unit (Table 3-5). Temperatures in half degrees. `regulator` is none, `some false`
(OFF) or `some true` (ON). -/
structure Thermal where
  raw : Option Nat
  working : Option Nat
  outTimer : Option Nat
  latch : Bool
  regulator : Option Bool
  rise : Option RiseWindow
  slowCount : Nat
  hold : Option Nat
  position : Option (Fin 4)
  wanted : Option WantedZone
  alternate : Option Nat
  divStall : Nat
  drain : Option DrainJob
  deriving DecidableEq, Repr

/-! ### Softener (spec/04) -/

/-- Table 4-3. -/
inductive RegenState where
  | idle | pending | brineFill | dissolve | waitWindow | flush | resinRinse
  deriving DecidableEq, Repr

/-- The kind of the drain window in use (R96). -/
inductive WindowKind where
  | none | phase | cancel | standAlone
  deriving DecidableEq, Repr

/-- The softener (Table 4-5). `c` is the capacity account in dH·mL, `factor` the restore factor in
percent: 100, or the low-salt restore factor (log 41). -/
structure Softener where
  c : Nat
  state : RegenState
  charged : Bool
  factor : Nat
  retryBlock : Bool
  regenCount : Nat
  dissolve : Option Nat
  flush : Option Nat
  window : WindowKind
  tail : Option Nat
  deriving DecidableEq, Repr

/-! ### Dose computer (spec/05) -/

/-- Which limit of R105 applied. -/
inductive Clamp where
  | none | min | max
  deriving DecidableEq, Repr

/-- The fields of Table 5-3 that are present when the plan is dosed, in µL. -/
structure DoseAmounts where
  plan : Nat
  clamp : Clamp
  carryIn : Nat
  carryOut : Nat
  deriving DecidableEq, Repr

/-- The intermediate values of a detergent plan (R104, R105, R112). -/
structure DoseWorking where
  w : Nat
  base : Nat
  scaled : Nat
  deriving DecidableEq, Repr

/-- A dose plan (Table 5-3). "dosed" is `amounts.isSome`. -/
structure DosePlan where
  reservoir : Reservoir
  amounts : Option DoseAmounts
  soilClass : Option (Fin 4)
  stroke : Nat
  planned : Nat
  delivered : Nat
  shortfall : Nat
  withdrawn : Nat
  working : Option DoseWorking
  deriving DecidableEq, Repr

/-- The dose computer (Table 5-6). -/
structure Dose where
  carryD : Nat
  carryR : Nat
  plan : Option DosePlan
  deriving DecidableEq, Repr

/-! ### Dosing unit (spec/06) -/

/-- One reservoir's part of Table 6-3. `runOut` is the stroke timer of a run-out (R121). -/
structure ReservoirState where
  account : Nat
  known : Bool
  opened : Bool
  watch : Option Nat
  runOut : Option Nat
  serviceStrokes : Nat
  deriving DecidableEq, Repr

/-- The dosing unit (Table 6-3). `stroke` is the timer of the stroke in flight, of the plan's reservoir (R115). -/
structure Dosing where
  detergent : ReservoirState
  rinseAid : ReservoirState
  stroke : Option Nat
  deriving DecidableEq, Repr

/-! ### Door-opener unit (spec/07) -/

/-- Clients of a motion (R139). -/
inductive MotionClient where
  | start | dry | cancel | service
  deriving DecidableEq, Repr

inductive Direction where
  | outward | inward
  deriving DecidableEq, Repr

/-- Drive states of R139; PAUSED is the flag `Motion.paused`, beside the drive state it left (R143). -/
inductive Drive where
  | fast | slow | settling | retryWait
  deriving DecidableEq, Repr

/-- The kind of a motion with the fields that kind has (R139). -/
inductive MotionKind where
  | approach (startCount : Int) (time : Nat)
  | move (slot target slowLead stopLead : Nat)
  deriving DecidableEq, Repr

/-- A motion (R139) with its timers (R140, R142), in ms. -/
structure Motion where
  kind : MotionKind
  client : MotionClient
  direction : Direction
  drive : Drive
  paused : Bool
  stalls : Nat
  invalids : Nat
  stallTimer : Nat
  retry : Nat
  settle : Nat
  deriving DecidableEq, Repr

/-- Outcomes of R139. -/
inductive Outcome where
  | referenced | failed | inPosition | miss | obstructed | overtravel | stuck | encoder | withdrawn
  deriving DecidableEq, Repr

/-- The door-opener unit (Table 7-2). `encA`, `encB` are the line pair before the next event (R130). -/
structure Rod where
  count : Int
  referenced : Bool
  encA : Bool
  encB : Bool
  motion : Option Motion
  last : Option (Outcome × MotionClient)
  invalidTotal : Nat
  dryWait : Option Nat
  airing : Option Nat
  closedDrying : Bool
  openingBlocked : Bool
  closedEarly : Bool
  positionMiss : Bool
  deriving DecidableEq, Repr

/-! ### Output supervisor and input monitor (spec/08) -/

/-- Operating modes (8.6). -/
inductive Mode where
  | normal | service | quiet
  deriving DecidableEq, Repr

/-- Enabled wake sources (R169). -/
structure WakeSet where
  door : Bool
  key : Bool
  link : Bool
  delay : Bool
  deriving DecidableEq, Repr

/-- Wake causes (R170). -/
inductive WakeCause where
  | door | key | link | delay | leak | panel | service
  deriving DecidableEq, Repr

/-- Service overrides (R166). `route` set means salt container; `circulation` is the level, 0 when not set. -/
structure Overrides where
  heater : Bool
  inlet : Bool
  route : Bool
  brine : Bool
  circulation : Nat
  drain : Bool
  doseD : Bool
  doseR : Bool
  diverter : Bool
  deriving DecidableEq, Repr

/-- Leak response states (R161), with the after-run timer. -/
inductive LeakResponse where
  | none | active
  | afterRun (left : Nat)
  deriving DecidableEq, Repr

/-- The output supervisor (Table 8-5). -/
structure Supervisor where
  mode : Mode
  wake : WakeSet
  lastWake : Option WakeCause
  overrides : Overrides
  leak : LeakResponse
  overfill : Bool
  overfillOpen : Option Nat
  deriving DecidableEq, Repr

/-- One debounced input (R153, R154): the raw line, the debounced state in its asserted sense (false is the
presentation of Table 8-2), whether it has been read since the reset, and the candidate timer. For the leak float
`raw` is "switch closed" (R155). -/
structure Switch where
  raw : Bool
  state : Bool
  read : Bool
  timer : Nat
  deriving DecidableEq, Repr

/-- The input monitor: the inputs of Table 8-1. -/
structure Monitor where
  door : Switch
  home : Switch
  level : Switch
  overfill : Switch
  leak : Switch
  salt : Switch
  lowD : Switch
  lowR : Switch
  capD : Switch
  capR : Switch
  strokeD : Switch
  strokeR : Switch
  detent : Switch
  index : Switch
  inhibit : Switch
  powerFail : Switch
  servicePresent : Switch
  wakeKey : Switch
  deriving DecidableEq, Repr

/-! ### Settings, record store (spec/09) -/

/-- R155. -/
inductive Polarity where
  | normallyOpen | normallyClosed
  deriving DecidableEq, Repr

/-- R160. -/
inductive DrainPolicy where
  | run | stop
  deriving DecidableEq, Repr

/-- A slot of the positions table (R136), in counts. -/
structure Slot where
  target : Nat
  slowLead : Nat
  stopLead : Nat
  deriving DecidableEq, Repr

/-- The settings and calibrations of Table 9-2, in its units. -/
structure Settings where
  hardness : Nat
  rinseLevel : Nat
  flowQ : Nat
  hres : Nat
  cfull : Nat
  thr : Nat
  brineVolume : Nat
  dissolveTime : Nat
  flushTime : Nat
  rinseVolume : Nat
  lowSalt : Nat
  bd : Nat
  kh : Nat
  f0 : Nat
  f1 : Nat
  f2 : Nat
  f3 : Nat
  t1 : Nat
  t2 : Nat
  t3 : Nat
  dminD : Nat
  dmaxD : Nat
  ur : Nat
  dminR : Nat
  dmaxR : Nat
  vsD : Nat
  vsR : Nat
  lowMarkD : Nat
  lowMarkR : Nat
  nominalD : Nat
  nominalR : Nat
  slots : Vector Slot 8
  homeUpper : Nat
  releaseLower : Nat
  leakPolarity : Polarity
  drainPolicy : DrainPolicy
  deriving DecidableEq, Repr

/-- Fault codes, in the order of spec/10 Table 10-3. -/
inductive FaultCode where
  | noWater | overfill | inletLeak | sensorTemp | heatSlow | heater | diverterSlip | diverterStall
  | drainBlocked | brineStall | soilSensor | pumpD | pumpR | encoder | referenceFail | rodStuck
  | overtravel | leak | storeLost
  deriving DecidableEq, Repr

/-- Fault sources, in the order of spec/10 Table 10-2. -/
inductive FaultSource where
  | programController | waterIntake | thermalUnit | softener | doseComputer | dosingUnit | doorOpener
  | outputSupervisor | recordStore
  deriving DecidableEq, Repr

/-- A fault record (spec/10 Table 10-2). -/
structure FaultRecord where
  code : FaultCode
  source : FaultSource
  tag : Option Byte
  detail : Option Int
  minute : Nat
  deriving DecidableEq, Repr

/-- An image of the appliance record: the items of Table 9-1. -/
structure Image where
  c : Nat
  charged : Bool
  regenCount : Nat
  accountD : Nat
  knownD : Bool
  accountR : Nat
  knownR : Bool
  carryD : Nat
  carryR : Nat
  programMark : Bool
  faultLog : List FaultRecord
  sequence : Word32
  minutes : Nat
  settings : Settings
  deriving DecidableEq, Repr

/-- Outcome of the load at the last reset (R181). -/
inductive LoadOutcome where
  | loaded | defaults
  deriving DecidableEq, Repr

/-- The record store. `stored` is the stored image when its check value matches it, none when it does not (R178,
log 10); `writing` is the write-in-flight flag with the image formed at the write's beginning; `restart` is a
waiting RESTART with its FRESH_RESIN mark (R184). -/
structure Store where
  stored : Option Image
  writing : Option Image
  again : Bool
  outcome : LoadOutcome
  minutes : Nat
  minuteTimer : Nat
  restart : Option Bool
  deriving DecidableEq, Repr

/-! ### Notice and fault unit (spec/10) -/

/-- Notice kinds, in the order of Table 10-1. -/
inductive NoticeKind where
  | phaseDone | programEnd | startRefused | noWater | resEmptyD | resEmptyR | regenDone | fault | woke
  | settingChanged | powerReturn | storeLost | leak | overfill | inhibit | saltEmpty | resLowD | resLowR
  deriving DecidableEq, Repr

/-- A port's notice set, as the count of each kind in the order of Table 10-1 (0 is absent), and its mask (R186, R189). -/
structure NoticeSet where
  counts : Vector Nat 18
  mask : KindSet
  deriving DecidableEq, Repr

/-- The condition table of the six level kinds (R187). -/
structure Conditions where
  leak : Bool
  overfill : Bool
  inhibit : Bool
  saltEmpty : Bool
  resLowD : Bool
  resLowR : Bool
  deriving DecidableEq, Repr

/-- The standing-fault set, in the order of R193. -/
structure Standing where
  sensorTemp : Bool
  heater : Bool
  diverterStall : Bool
  encoder : Bool
  referenceFail : Bool
  rodStuck : Bool
  pumpD : Bool
  pumpR : Bool
  soilSensor : Bool
  inletLeak : Bool
  deriving DecidableEq, Repr

/-- How a phase ended (R5). -/
inductive PhaseEnding where
  | done | cancelled | faulted
  deriving DecidableEq, Repr

/-- The fill part of a result record (R194), in mL. -/
structure FillPart where
  v : Nat
  vSoft : Nat
  vHard : Nat
  overshoot : Nat
  deriving DecidableEq, Repr

/-- A dose part of a result record (R194). -/
structure DosePart where
  planned : Nat
  delivered : Nat
  shortfall : Nat
  withdrawn : Nat
  plan : Nat
  deriving DecidableEq, Repr

/-- The six flags of a result record (R28). -/
structure ResultFlags where
  heatMissed : Bool
  heatSkipped : Bool
  openingBlocked : Bool
  closedEarly : Bool
  positionMiss : Bool
  closedDrying : Bool
  deriving DecidableEq, Repr

/-- A result record (R28, R194). `peak` in half degrees, `duration` in s. -/
structure ResultRecord where
  sequence : Word32
  tag : Byte
  kind : PhaseKind
  ending : PhaseEnding
  fill : Option FillPart
  doseD : Option DosePart
  doseR : Option DosePart
  soilClass : Option (Fin 4)
  peak : Nat
  flags : ResultFlags
  duration : Nat
  deriving DecidableEq, Repr

/-- The notice and fault unit. -/
structure Notes where
  panel : NoticeSet
  link : NoticeSet
  service : NoticeSet
  conditions : Conditions
  log : List FaultRecord
  standing : Standing
  ring : List ResultRecord
  next : Word32
  deriving DecidableEq, Repr

/-! ### Port controller (spec/11) -/

/-- Refusal reasons of Table 11-2. -/
inductive Reason where
  | state | door | leak | full | badPhase | badOrder | notArmed | range | fault | mode
  deriving DecidableEq, Repr

/-- Answer statuses of Table 11-2. -/
inductive Status where
  | ok | clamped
  | refused (why : Reason)
  | denied | held | unknown | format
  deriving DecidableEq, Repr

/-- An answer (Table 11-2): status, the LOST and GAP flags, the number of result records, and the payload. -/
structure Answer where
  status : Status
  lost : Bool
  gap : Bool
  records : Nat
  payload : List Byte
  deriving DecidableEq, Repr

/-- The receiver states of R197 with the bytes kept. -/
inductive Receiver where
  | hunt | length
  | body (len : Nat) (kept : List Byte)
  | check (len : Nat) (kept : List Byte)
  deriving DecidableEq, Repr

/-- One port (R197, R198). `buffer` holds the body of a complete frame. `answers` are the answers to send, the
first being sent; the transmitter is idle when there is none (log 5). -/
structure PortState where
  receiver : Receiver
  buffer : Option (List Byte)
  lost : Bool
  answers : List Answer
  deriving DecidableEq, Repr

/-- The port controller: three ports and the service hold (R201). -/
structure Ports where
  panel : PortState
  link : PortState
  service : PortState
  hold : Bool
  deriving DecidableEq, Repr

/-! ### The whole machine -/

/-- The D41. `pending` is the queue of waiting commands, first in first out; `clock` counts ms since the reset;
`samples` counts the free turbidity readings drawn (log 7). -/
structure State where
  pending : List Instr
  clock : Nat
  samples : Nat
  prog : Program
  water : Water
  therm : Thermal
  soft : Softener
  dose : Dose
  dosing : Dosing
  rod : Rod
  sup : Supervisor
  mon : Monitor
  cal : Settings
  store : Store
  notes : Notes
  ports : Ports
  deriving DecidableEq, Repr

/-- No command stops the part: the spec gives every command an effect, so there is no fault to name (log 34). -/
inductive Fault where
  deriving DecidableEq, Repr

/-- Refusals. -/
inductive Refusal where
  /-- Reserved for an arm of `exec` that has no meaning yet; no arm answers with it. Safe. -/
  | notModelled (mnemonic : String)
  deriving DecidableEq, Repr

/-! ### Reset values -/

/-- Table 9-2, column Default. -/
def Settings.defaults : Settings where
  hardness := 16
  rinseLevel := 3
  flowQ := 208
  hres := 4
  cfull := 3200000
  thr := 15
  brineVolume := 300
  dissolveTime := 180
  flushTime := 240
  rinseVolume := 600
  lowSalt := 25
  bd := 4000
  kh := 60
  f0 := 80
  f1 := 100
  f2 := 125
  f3 := 150
  t1 := 300
  t2 := 520
  t3 := 760
  dminD := 8000
  dmaxD := 40000
  ur := 600
  dminR := 600
  dmaxR := 3600
  vsD := 250
  vsR := 100
  lowMarkD := 60
  lowMarkR := 40
  nominalD := 450
  nominalR := 250
  slots := #v[⟨0, 120, 8⟩, ⟨80, 120, 8⟩, ⟨1000, 120, 8⟩, ⟨1000, 120, 8⟩, ⟨1000, 120, 8⟩, ⟨1000, 120, 8⟩,
    ⟨1000, 120, 8⟩, ⟨1000, 120, 8⟩]
  homeUpper := 20
  releaseLower := 60
  leakPolarity := .normallyOpen
  drainPolicy := .run

/-- The items a load of defaults hands to the blocks (R183). -/
def Image.defaults : Image where
  c := 0
  charged := false
  regenCount := 0
  accountD := 0
  knownD := false
  accountR := 0
  knownR := false
  carryD := 0
  carryR := 0
  programMark := false
  faultLog := []
  sequence := 0
  minutes := 0
  settings := Settings.defaults

def HoldSet.empty : HoldSet := ⟨false, false, false, false, false, false⟩

/-- Table 1-4. -/
def Program.reset : Program :=
  { state := .idle, queue := [], phase := none, holds := HoldSet.empty, arm := false, delay := none, tankWet := false,
    soilClass := 1, stallCount := 0, retry := none, doorQual := 0 }

/-- Table 2-3. -/
def Water.reset : Water :=
  { holder := none, waitWash := false, waitSoft := none, window := none, record := none, softCounter := none,
    stall := 0, unattributed := 0, arrivals := [], inletOpen := false }

/-- Table 3-5; the raw reading before the first one is none (DESIGN CHOICE, log 42). -/
def Thermal.reset : Thermal :=
  { raw := none, working := none, outTimer := none, latch := false, regulator := none, rise := none, slowCount := 0,
    hold := none, position := none, wanted := none, alternate := none, divStall := 0, drain := none }

/-- Table 7-2, with the encoder lines as they stand at the reset (R130). -/
def Rod.reset (a b : Bool) : Rod :=
  { count := 0, referenced := false, encA := a, encB := b, motion := none, last := none, invalidTotal := 0,
    dryWait := none, airing := none, closedDrying := false, openingBlocked := false, closedEarly := false,
    positionMiss := false }

def Overrides.none : Overrides := ⟨false, false, false, false, 0, false, false, false, false⟩

/-- Table 8-5. -/
def Supervisor.reset : Supervisor :=
  { mode := .normal, wake := ⟨true, true, false, true⟩, lastWake := none, overrides := Overrides.none, leak := .none,
    overfill := false, overfillOpen := none }

/-- An input after a reset: unread, presented as Table 8-2, its candidate timer at 0 against the raw line (R154). A cap
switch presents closed, where the spec names no state (DESIGN CHOICE, log 45). -/
def Switch.reset (raw : Bool) : Switch := ⟨raw, false, false, 0⟩

def Conditions.none : Conditions := ⟨false, false, false, false, false, false⟩

def Standing.none : Standing := ⟨false, false, false, false, false, false, false, false, false, false⟩

/-- The three default masks of R189, bit by bit in the order of Table 10-1. -/
def panelMask : KindSet := 0x3FFFF#18

def linkMask : KindSet := 0x390B2#18

def serviceMask : KindSet := 0#18

def NoticeSet.empty (mask : KindSet) : NoticeSet := ⟨Vector.replicate 18 0, mask⟩

/-- R197, R198. -/
def PortState.reset : PortState := ⟨.hunt, none, false, []⟩

/-- The ports after a reset (R197, R198, R201). -/
def Ports.reset : Ports := ⟨PortState.reset, PortState.reset, PortState.reset, false⟩

/-- The fault record of a load of defaults at minute 0 (R183 step 1). -/
def storeLostRecord : FaultRecord := ⟨.storeLost, .recordStore, none, none, 0⟩

/-- The counts left by R183 steps 1 and 2: FAULT 1 and STORE_LOST 1. -/
def storeLostCounts : Vector Nat 18 := #v[0, 0, 0, 0, 0, 0, 0, 1, 0, 0, 0, 1, 0, 0, 0, 0, 0, 0]

/-- The machine right after its first power-on: no image with a matching check value is stored (DESIGN CHOICE, log
8), so defaults are loaded, STORE_LOST is logged and raised, and the first checkpoint is in flight (R183). Every
line is at its Table 8-2 presentation and the encoder lines at 0, 0 (DESIGN CHOICE, log 9). -/
def State.reset : State where
  pending := []
  clock := 0
  samples := 0
  prog := Program.reset
  water := Water.reset
  therm := Thermal.reset
  soft := { c := 0, state := .pending, charged := false, factor := 25, retryBlock := false, regenCount := 0,
            dissolve := none, flush := none, window := .none, tail := none }
  dose := ⟨0, 0, none⟩
  dosing := ⟨⟨0, false, false, none, none, 0⟩, ⟨0, false, false, none, none, 0⟩, none⟩
  rod := Rod.reset false false
  sup := Supervisor.reset
  mon :=
    { door := Switch.reset false, home := Switch.reset false, level := Switch.reset false,
      overfill := Switch.reset false, leak := Switch.reset false, salt := Switch.reset false,
      lowD := Switch.reset false, lowR := Switch.reset false, capD := Switch.reset false,
      capR := Switch.reset false, strokeD := Switch.reset false, strokeR := Switch.reset false,
      detent := Switch.reset false, index := Switch.reset false, inhibit := Switch.reset false,
      powerFail := Switch.reset false, servicePresent := Switch.reset false, wakeKey := Switch.reset false }
  cal := Settings.defaults
  store := { stored := none, writing := some { Image.defaults with faultLog := [storeLostRecord] }, again := false,
             outcome := .defaults, minutes := 0, minuteTimer := 0, restart := none }
  notes := { panel := ⟨storeLostCounts, panelMask⟩, link := ⟨storeLostCounts, linkMask⟩,
             service := ⟨storeLostCounts, serviceMask⟩, conditions := Conditions.none, log := [storeLostRecord],
             standing := Standing.none, ring := [], next := 1 }
  ports := Ports.reset

end Sys2Proof.Machine
end

