-- ==== Sys2Proof/Machine/Update.lean ====
section
/-!
DEFINITION. One update per block of the state: `s.onProg f` replaces the program controller's part by `f` of it and
leaves every other block as it is.
-/

namespace Sys2Proof.Machine

/-- Update of the program controller's state. -/
def State.onProg (s : State) (f : Program → Program) : State :=
  { s with prog := f s.prog }

/-- Update of the water intake's state. -/
def State.onWater (s : State) (f : Water → Water) : State :=
  { s with water := f s.water }

/-- Update of the thermal and circulation unit's state. -/
def State.onTherm (s : State) (f : Thermal → Thermal) : State :=
  { s with therm := f s.therm }

/-- Update of the softener's state. -/
def State.onSoft (s : State) (f : Softener → Softener) : State :=
  { s with soft := f s.soft }

/-- Update of the dose computer's state. -/
def State.onDose (s : State) (f : Dose → Dose) : State :=
  { s with dose := f s.dose }

/-- Update of the dosing unit's state. -/
def State.onDosing (s : State) (f : Dosing → Dosing) : State :=
  { s with dosing := f s.dosing }

/-- Update of the door-opener unit's state. -/
def State.onRod (s : State) (f : Rod → Rod) : State :=
  { s with rod := f s.rod }

/-- Update of the output supervisor's state. -/
def State.onSup (s : State) (f : Supervisor → Supervisor) : State :=
  { s with sup := f s.sup }

/-- Update of the input monitor's state. -/
def State.onMon (s : State) (f : Monitor → Monitor) : State :=
  { s with mon := f s.mon }

/-- Update of the live settings and calibrations's state. -/
def State.onCal (s : State) (f : Settings → Settings) : State :=
  { s with cal := f s.cal }

/-- Update of the record store's state. -/
def State.onStore (s : State) (f : Store → Store) : State :=
  { s with store := f s.store }

/-- Update of the notice and fault unit's state. -/
def State.onNotes (s : State) (f : Notes → Notes) : State :=
  { s with notes := f s.notes }

/-- Update of the port controller's state. -/
def State.onPorts (s : State) (f : Ports → Ports) : State :=
  { s with ports := f s.ports }

end Sys2Proof.Machine
end

