-- ==== Sys2Proof/Machine/Flags.lean ====
section
/-!
DEFINITION. What the spec derives from the state kept by the blocks: conditions, demands, interlocks and the final
state of every output.
-/

namespace Sys2Proof.Machine

/-! ### Inputs and modes -/

/-- The debounced door switch reads closed. -/
def doorClosed (s : State) : Bool := s.mon.door.state

/-- The debounced level switch reports water. -/
def levelWater (s : State) : Bool := s.mon.level.state

/-- The leak input is asserted (the debounced leak state, R155). -/
def leakPresent (s : State) : Bool := s.mon.leak.state

/-- The inhibit line is asserted (R159). -/
def inhibited (s : State) : Bool := s.mon.inhibit.state

/-- The power-fail warning reads asserted (R180). -/
def powerFailing (s : State) : Bool := s.mon.powerFail.state

/-- The leak response is active: ACTIVE or AFTER_RUN (R161). -/
def leakActive (s : State) : Bool := s.sup.leak != .none

/-- The forced-off condition that Table 8-3 gives every output but the drain pump (R157). -/
def forcedOff (s : State) : Bool := leakActive s || inhibited s || s.sup.mode == .quiet

/-! ### The program (spec/01) -/

/-- The hold-cause set is not empty (R22). -/
def HoldSet.any (h : HoldSet) : Bool := h.request || h.door || h.water || h.inlet || h.regen || h.inhibit

/-- The running phase is suspended (R22). -/
def suspended (s : State) : Bool := s.prog.holds.any

/-- The running phase's record with what else the program controller holds of it: only in RUNNING (R4). -/
def runningPhase (s : State) : Option (PhaseRecord × RunningPhase) :=
  match s.prog.state, s.prog.phase, s.prog.queue with
  | .running, some ph, r :: _ => some (r, ph)
  | _, _, _ => none

/-- The stage of the running phase, or none. -/
def runningStage (s : State) : Option Stage := (runningPhase s).map (·.2.stage)

/-- The running phase's tag, for a fault record (R191). -/
def runningTag (s : State) : Option Byte := (runningPhase s).map (·.1.tag)

/-- The four wet kinds (1.1). -/
def PhaseKind.wet : PhaseKind → Bool
  | .pre | .main | .inter | .finalRinse => true
  | .dry => false

/-- The running phase is wet. -/
def wetRunning (s : State) : Bool :=
  match runningPhase s with
  | some (r, _) => r.kind.wet
  | none => false

/-- The program mark of R29, formed from the program state. A mark that a load hands over (R182) is used for POWER_RETURN and
not kept: READ RECORD shows the mark that a checkpoint would store now (DEDUCED, log 56). -/
def programMark (s : State) : Bool :=
  match s.prog.state with
  | .running | .cancelling | .faulted => true
  | .idle | .ready | .delayed => false

/-- The record carries a dose flag (R18). -/
def PhaseRecord.doses (r : PhaseRecord) : Bool := r.detergent || r.rinseAid

/-! ### The rod (spec/07) -/

/-- HOME track membership (R137). -/
def inHomeTrack (s : State) : Bool :=
  s.rod.referenced && decide (-30 ≤ s.rod.count) && decide (s.rod.count ≤ (s.cal.homeUpper : Int))

/-- LATCH_FREE track membership (R137). -/
def inLatchFree (s : State) : Bool :=
  s.rod.referenced && decide ((s.cal.releaseLower : Int) ≤ s.rod.count) && decide (s.rod.count ≤ 1500)

/-- Rod home (R138). -/
def rodHome (s : State) : Bool := s.mon.home.state || inHomeTrack s

/-- The motion is paused by the forced layer, or with its suspended DRY phase (R143). -/
def motionHeld (s : State) (m : Motion) : Bool :=
  forcedOff s || (m.client == .dry && suspended s)

/-- The door-opener motor's demand: its direction, and whether fast (R140, R142, R143). -/
def motorDemand (s : State) : Option (Direction × Bool) :=
  match s.rod.motion with
  | some m =>
    if m.paused then none
    else match m.drive with
      | .fast => some (m.direction, true)
      | .slow => some (m.direction, false)
      | .settling | .retryWait => none
  | none => none

/-- The door-opener motor's final state (Table 8-3). -/
def motorFinal (s : State) : Option (Direction × Bool) :=
  if forcedOff s then none else motorDemand s

/-! ### Water intake (spec/02) -/

/-- The remaining count of a fill counter with that target and volume (R34). -/
def remaining (target v : Nat) : Int := (target : Int) - (v : Int)

/-- A fill record's overshoot (R34); a service fill has no target and none (Table 2-2). -/
def FillRecord.overshoot (r : FillRecord) : Nat :=
  match r.target with
  | some t => r.v - t
  | none => 0

/-- A record's remaining count is zero or less (R33, R36). -/
def FillRecord.met (r : FillRecord) : Bool :=
  match r.target with
  | some t => decide (remaining t r.v ≤ 0)
  | none => false

/-- A softener counter's remaining count is zero or less. -/
def SoftCounter.met (c : SoftCounter) : Bool := decide (remaining c.target c.v ≤ 0)

/-- Water intake's demand for the inlet valve (R40). -/
def inletDemand (s : State) : Bool :=
  match s.water.holder with
  | some .wash =>
    wetRunning s && !suspended s && (match s.water.record with | some r => !r.met | none => false)
  | some .brine | some .rinse =>
    match s.water.softCounter with
    | some c => !c.met
    | none => false
  | none => false

/-- The inlet valve's final state (R156, Table 8-3). -/
def inletFinal (s : State) : Bool :=
  !forcedOff s && !s.sup.overfill && (s.sup.overrides.inlet || inletDemand s)

/-- Water intake's route demand: true at the salt container (R41; at the tank for a whole service fill, R49, log 28). -/
def routeDemand (s : State) : Bool :=
  !s.sup.overrides.inlet &&
    (s.water.holder == some .brine ||
      (match s.water.window with | some w => w.owner == .brine | none => false))

/-- The route valve's final state: true at the salt container (Table 8-3). -/
def routeFinal (s : State) : Bool := !forcedOff s && (s.sup.overrides.route || routeDemand s)

/-- The inlet is grantable (R37). -/
def grantable (s : State) : Bool :=
  s.water.holder.isNone && s.water.window.isNone && !s.sup.overrides.inlet

/-! ### Softener (spec/04) -/

/-- The hardness difference D (R76). -/
def hardnessD (s : State) : Nat := s.cal.hardness - s.cal.hres

/-- The regeneration threshold T in dH·mL (R76). -/
def thresholdT (s : State) : Nat := s.cal.cfull * s.cal.thr / 100

/-- The account is exhausted (R79). -/
def exhausted (s : State) : Bool := decide (0 < hardnessD s) && decide (s.soft.c < hardnessD s)

/-- The softener is in FLUSH or RESIN_RINSE. -/
def regenerating (s : State) : Bool := s.soft.state == .flush || s.soft.state == .resinRinse

/-- A regeneration extension of the drain job runs (R71). -/
def extension (s : State) : Bool :=
  regenerating s && (s.soft.window == .phase || s.soft.window == .cancel)

/-- A drain job is suspended or held (R72). -/
def drainHeld (s : State) (j : DrainJob) : Bool :=
  match j.kind with
  | .phase => suspended s
  | .cancel => leakPresent s || inhibited s

/-- The softener's window in use is paused (R92). -/
def windowPaused (s : State) : Bool :=
  match s.soft.window with
  | .phase => suspended s
  | .cancel => leakPresent s || inhibited s
  | .none | .standAlone => false

/-- A drain window reported by the thermal and circulation unit is open and not paused (R71, R85). -/
def jobWindowOpen (s : State) : Option WindowKind :=
  match s.therm.drain with
  | some j =>
    if j.window && !drainHeld s j then
      some (match j.kind with | .phase => .phase | .cancel => .cancel)
    else none
  | none => none

/-- The conditions of a stand-alone window (R86). -/
def standAloneOk (s : State) : Bool :=
  (s.prog.state == .idle || s.prog.state == .ready) && s.sup.mode == .normal && doorClosed s

/-- The window through which a softener in WAIT_WINDOW enters FLUSH now, if any (R85), in NORMAL alone: in QUIET and SERVICE
it waits (R93, spec/08 R164, Note of 8.2), beside an open cancel drain too (log 48). -/
def flushWindow (s : State) : Option WindowKind :=
  if s.soft.state == .waitWindow && s.sup.mode == .normal && !leakPresent s && !inhibited s then
    match jobWindowOpen s with
    | some k => some k
    | none => if standAloneOk s then some .standAlone else none
  else none

/-- The entry conditions of BRINE_FILL hold (R82). -/
def brineFillReady (s : State) : Bool :=
  s.soft.state == .pending && s.sup.mode == .normal && runningStage s != some .filling
    && !leakPresent s && !inhibited s && !s.soft.retryBlock

/-- The brine valve demand (R87). -/
def brineDemand (s : State) : Bool := s.soft.state == .flush && !windowPaused s

/-! ### Drain pump (R73) -/

/-- The demand sources of R73, in its order. -/
structure DrainSources where
  phaseJob : Bool
  cancelJob : Bool
  softener : Bool
  overfill : Bool
  service : Bool
  deriving DecidableEq, Repr

def drainSources (s : State) : DrainSources where
  phaseJob := match s.therm.drain with
    | some j => j.kind == .phase && !suspended s
    | none => false
  cancelJob := match s.therm.drain with
    | some j => j.kind == .cancel
    | none => false
  softener := (s.soft.window == .standAlone && regenerating s) || s.soft.tail.isSome
  overfill := s.sup.overfill
  service := s.sup.overrides.drain

def drainDemand (s : State) : Bool :=
  let d := drainSources s
  d.phaseJob || d.cancelJob || d.softener || d.overfill || d.service

/-- The drain pump's final state (Table 3-4, first row that applies). -/
def drainFinal (s : State) : Bool :=
  if leakActive s then true
  else if inhibited s && s.cal.drainPolicy == .stop then false
  else if s.sup.mode == .quiet then false
  else drainDemand s

/-- The brine valve's final state (R87, Table 8-3). -/
def brineFinal (s : State) : Bool :=
  !forcedOff s && drainFinal s && (s.sup.overrides.brine || (brineDemand s && s.soft.state == .flush))

/-! ### Circulation, heater, diverter (spec/03) -/

/-- The running phase is in a circulating stage and not suspended (R62). -/
def circulating (s : State) : Bool :=
  !suspended s &&
    (match runningStage s with
     | some .dosing | some .heating | some .holding => true
     | _ => false)

/-- The circulation demand (R62). -/
def circDemand (s : State) : Nat :=
  if circulating s then
    match runningPhase s with
    | some (r, _) => r.pumpLevel.getD 0
    | none => 0
  else 0

/-- The circulation pump's interlock (R62). -/
def circInterlock (s : State) : Bool := doorClosed s && rodHome s && levelWater s

/-- The circulation pump's final level (R62, Table 8-3). -/
def circFinal (s : State) : Nat :=
  if forcedOff s || !circInterlock s then 0
  else if s.sup.overrides.circulation ≠ 0 then s.sup.overrides.circulation
  else circDemand s

/-- The heater demand (R55). -/
def heaterDemand (s : State) : Bool := s.therm.regulator == some true && !suspended s

/-- The heater's interlock (R61). -/
def heaterInterlock (s : State) : Bool :=
  levelWater s && decide (1 ≤ circFinal s) && doorClosed s && rodHome s && !s.therm.latch
    && !leakPresent s && !inhibited s

/-- The heater relay's final state (R60, R61, Table 8-3). -/
def heaterFinal (s : State) : Bool :=
  !forcedOff s && !s.therm.latch && (s.sup.overrides.heater || heaterDemand s) && heaterInterlock s

/-- The diverter position lies in the wanted set of the zone (R65). -/
def inWantedSet (z : WantedZone) (p : Option (Fin 4)) : Bool :=
  match z, p with
  | _, none => false
  | .both, some p => p == 0 || p == 3
  | .lower, some p => p == 1
  | .upper, some p => p == 2

/-- The diverter drive demand (R65, R67). -/
def diverterDemand (s : State) : Bool :=
  circulating s && !s.notes.standing.diverterStall &&
    (match s.therm.wanted with
     | some z => !inWantedSet z s.therm.position
     | none => false)

/-- The diverter motor's final state (Table 8-3). -/
def diverterFinal (s : State) : Bool := !forcedOff s && (s.sup.overrides.diverter || diverterDemand s)

/-! ### Dosing pumps (spec/06) -/

/-- A reservoir's part of the dosing unit. -/
def Dosing.get (d : Dosing) : Reservoir → ReservoirState
  | .detergent => d.detergent
  | .rinseAid => d.rinseAid

/-- A stroke of that reservoir is in flight (R115). -/
def strokeInFlight (s : State) (r : Reservoir) : Bool :=
  s.dosing.stroke.isSome && (match s.dose.plan with | some p => p.reservoir == r | none => false)

/-- The pump demand of a reservoir (R115, R121). -/
def pumpDemand (s : State) (r : Reservoir) : Bool :=
  strokeInFlight s r || (s.dosing.get r).runOut.isSome

/-- The service override of a dosing pump. -/
def Overrides.dose (o : Overrides) : Reservoir → Bool
  | .detergent => o.doseD
  | .rinseAid => o.doseR

/-- A dosing pump's final state (Table 8-3). -/
def pumpFinal (s : State) (r : Reservoir) : Bool :=
  !forcedOff s && (s.sup.overrides.dose r || pumpDemand s r)

/-- The pump fault of a reservoir stands (R116). -/
def pumpFault (s : State) : Reservoir → Bool
  | .detergent => s.notes.standing.pumpD
  | .rinseAid => s.notes.standing.pumpR

end Sys2Proof.Machine
end

