-- ==== Sys2Proof/Machine/Ops.lean ====
section
/-!
DEFINITION. The shared operations over the state: inputs, notices, faults, checkpoints, results, wakes.
-/

namespace Sys2Proof.Machine

/-! ### Input monitor (spec/08 R153, R154) -/

/-- The input of Table 8-1. -/
def Monitor.get (m : Monitor) : SwitchInput → Switch
  | .door => m.door
  | .home => m.home
  | .level => m.level
  | .overfill => m.overfill
  | .leak => m.leak
  | .salt => m.salt
  | .lowD => m.lowD
  | .lowR => m.lowR
  | .capD => m.capD
  | .capR => m.capR
  | .strokeD => m.strokeD
  | .strokeR => m.strokeR
  | .detent => m.detent
  | .index => m.index
  | .inhibit => m.inhibit
  | .powerFail => m.powerFail
  | .servicePresent => m.servicePresent
  | .wakeKey => m.wakeKey

/-- Replace one input of Table 8-1. -/
def Monitor.set (m : Monitor) (i : SwitchInput) (x : Switch) : Monitor :=
  match i with
  | .door => { m with door := x }
  | .home => { m with home := x }
  | .level => { m with level := x }
  | .overfill => { m with overfill := x }
  | .leak => { m with leak := x }
  | .salt => { m with salt := x }
  | .lowD => { m with lowD := x }
  | .lowR => { m with lowR := x }
  | .capD => { m with capD := x }
  | .capR => { m with capR := x }
  | .strokeD => { m with strokeD := x }
  | .strokeR => { m with strokeR := x }
  | .detent => { m with detent := x }
  | .index => { m with index := x }
  | .inhibit => { m with inhibit := x }
  | .powerFail => { m with powerFail := x }
  | .servicePresent => { m with servicePresent := x }
  | .wakeKey => { m with wakeKey := x }

/-- Debounce times in ms (Table 8-1). -/
def debounceMs : SwitchInput → Nat
  | .door => 50
  | .home => 20
  | .level => 1000
  | .overfill => 1000
  | .leak => 2000
  | .salt => 2000
  | .lowD => 2000
  | .lowR => 2000
  | .capD => 200
  | .capR => 200
  | .strokeD => 5
  | .strokeR => 5
  | .detent => 10
  | .index => 10
  | .inhibit => 20
  | .powerFail => 1
  | .servicePresent => 500
  | .wakeKey => 50

/-- The raw line of the leak float at which a leak of that state is read through the polarity, and back (R155). -/
def throughPolarity (pol : Polarity) (v : Bool) : Bool :=
  match pol with
  | .normallyOpen => v
  | .normallyClosed => !v

/-- The raw level of an input in its asserted sense (R153, R155). -/
def rawAsserted (s : State) (i : SwitchInput) : Bool :=
  if i = .leak then throughPolarity s.cal.leakPolarity (s.mon.get i).raw else (s.mon.get i).raw

/-- The input's candidate timer runs: it is unread (R154), or its raw level differs from its debounced state (R153). -/
def candidateRuns (s : State) (i : SwitchInput) : Bool :=
  !(s.mon.get i).read || rawAsserted s i != (s.mon.get i).state

/-- The debounced state of the input takes the value `v`, its line standing there (R153). -/
def setDebounced (i : SwitchInput) (v : Bool) (s : State) : State :=
  let raw := if i = .leak then throughPolarity s.cal.leakPolarity v else v
  s.onMon (fun m => m.set i ⟨raw, v, true, 0⟩)

/-- The input has not been read since the reset (R154). -/
def unread (s : State) (i : SwitchInput) : Bool := !(s.mon.get i).read

/-! ### Notice sets (spec/10 R186, R189) -/

/-- A kind's bit (spec/11 R202): its place in Table 10-1. -/
def NoticeKind.bit : NoticeKind → Fin 18
  | .phaseDone => 0
  | .programEnd => 1
  | .startRefused => 2
  | .noWater => 3
  | .resEmptyD => 4
  | .resEmptyR => 5
  | .regenDone => 6
  | .fault => 7
  | .woke => 8
  | .settingChanged => 9
  | .powerReturn => 10
  | .storeLost => 11
  | .leak => 12
  | .overfill => 13
  | .inhibit => 14
  | .saltEmpty => 15
  | .resLowD => 16
  | .resLowR => 17

/-- A port's notice set and mask. -/
def Notes.get (n : Notes) : Port → NoticeSet
  | .panel => n.panel
  | .link => n.link
  | .service => n.service

def Notes.set (n : Notes) (p : Port) (x : NoticeSet) : Notes :=
  match p with
  | .panel => { n with panel := x }
  | .link => { n with link := x }
  | .service => { n with service := x }

/-- A kind's count in a set, 0 when it is absent (R186). -/
def NoticeSet.count (n : NoticeSet) (k : NoticeKind) : Nat := n.counts[k.bit]

/-- Raising a kind on one set (R186). -/
def NoticeSet.raise (n : NoticeSet) (k : NoticeKind) : NoticeSet :=
  { n with counts := n.counts.set k.bit (min 15 (n.counts[k.bit] + 1)) }

/-- Removing a kind from a set. -/
def NoticeSet.remove (n : NoticeSet) (k : NoticeKind) : NoticeSet :=
  { n with counts := n.counts.set k.bit 0 }

/-- A kind raised on one port (R186). -/
def raiseOn (p : Port) (k : NoticeKind) (s : State) : State :=
  s.onNotes (fun n => n.set p ((n.get p).raise k))

/-- A kind raised on every port (R186). -/
def raiseAll (k : NoticeKind) (s : State) : State :=
  s.onNotes (fun n => { n with panel := n.panel.raise k, link := n.link.raise k, service := n.service.raise k })

/-- A port's attention line (R189). -/
def attention (s : State) (p : Port) : Bool :=
  let n := s.notes.get p
  (List.finRange 18).any (fun i => decide (n.counts[i] ≠ 0) && n.mask.getLsbD i.val)

/-- The beginning of a level kind's condition (R187): `f` sets its flag. -/
def beginCondition (k : NoticeKind) (f : Conditions → Conditions) (s : State) : State :=
  raiseAll k (s.onNotes (fun n => { n with conditions := f n.conditions }))

/-- The end of a level kind's condition (R187): `f` clears its flag; no set changes. -/
def endCondition (f : Conditions → Conditions) (s : State) : State :=
  s.onNotes (fun n => { n with conditions := f n.conditions })

/-! ### Faults (spec/10 R191, R193) -/

/-- Appending to a log of at most 3, the oldest leaving first (R192). -/
def appendLog (log : List FaultRecord) (r : FaultRecord) : List FaultRecord :=
  (log ++ [r]).drop ((log.length + 1) - 3)

/-- Logging a fault record (R191): appended with the running phase's tag and the operating minute, then FAULT is
raised on every port. -/
def logFault (code : FaultCode) (source : FaultSource) (detail : Option Int) (s : State) : State :=
  raiseAll .fault
    (s.onNotes (fun n => { n with log := appendLog n.log ⟨code, source, runningTag s, detail, s.store.minutes⟩ }))

/-- An update of the standing-fault set (R193). -/
def onStanding (f : Standing → Standing) (s : State) : State :=
  s.onNotes (fun n => { n with standing := f n.standing })

/-! ### Checkpoints (spec/09 R178 to R180, R184) -/

/-- The image of Table 9-1, each item as it stands. With FRESH_RESIN, C is Cfull and the brine-charged flag clear (R184). -/
def formImage (fresh : Bool) (s : State) : Image where
  c := if fresh then s.cal.cfull else s.soft.c
  charged := if fresh then false else s.soft.charged
  regenCount := s.soft.regenCount
  accountD := s.dosing.detergent.account
  knownD := s.dosing.detergent.known
  accountR := s.dosing.rinseAid.account
  knownR := s.dosing.rinseAid.known
  carryD := s.dose.carryD
  carryR := s.dose.carryR
  programMark := programMark s
  faultLog := s.notes.log
  sequence := s.notes.next - 1
  minutes := s.store.minutes
  settings := s.cal

/-- A write begins (R178): the image is formed, the stored image no longer matches its check value, AGAIN is served. -/
def beginWrite (fresh : Bool) (s : State) : State :=
  s.onStore (fun t => { t with stored := none, writing := some (formImage fresh s), again := false })

/-- The FRESH_RESIN mark of a waiting RESTART (R184). -/
def freshWaiting (s : State) : Bool := s.store.restart.getD false

/-- A checkpoint trigger (R178, R179, R180). -/
def trigger (s : State) : State :=
  if s.store.writing.isSome || powerFailing s then s.onStore (fun t => { t with again := true })
  else beginWrite (freshWaiting s) s

/-! ### Results (spec/10 R194, R195) -/

/-- Placing a result record: it takes the next sequence number, which increases modulo 2^32, and the ring keeps the
newest 16. -/
def placeResult (r : ResultRecord) (s : State) : State :=
  s.onNotes (fun n =>
    { n with ring := (n.ring ++ [{ r with sequence := n.next }]).drop ((n.ring.length + 1) - 16),
             next := n.next + 1 })

/-! ### Wake (spec/08 R170) -/

/-- A wake: only QUIET is left, the cause is recorded and WOKE raised on every port. -/
def wake (cause : WakeCause) (s : State) : State :=
  if s.sup.mode = .quiet then
    raiseAll .woke (s.onSup (fun u => { u with mode := .normal, lastWake := some cause }))
  else s

/-! ### Dosing unit -/

/-- Replace a reservoir's part of the dosing unit. -/
def onReservoir (r : Reservoir) (f : ReservoirState → ReservoirState) (s : State) : State :=
  match r with
  | .detergent => s.onDosing (fun d => { d with detergent := f d.detergent })
  | .rinseAid => s.onDosing (fun d => { d with rinseAid := f d.rinseAid })

/-- A known account lowered by one stroke (R117, R126). -/
def chargeStroke (vs : Nat) (x : ReservoirState) : ReservoirState :=
  if x.known then { x with account := x.account - vs } else x

/-- A reservoir's calibrations: stroke volume in µL, low mark and nominal volume in mL (Table 5-1, Table 6-1). -/
def Settings.vs (c : Settings) : Reservoir → Nat
  | .detergent => c.vsD
  | .rinseAid => c.vsR

def Settings.lowMark (c : Settings) : Reservoir → Nat
  | .detergent => c.lowMarkD
  | .rinseAid => c.lowMarkR

def Settings.nominal (c : Settings) : Reservoir → Nat
  | .detergent => c.nominalD
  | .rinseAid => c.nominalR

/-! ### Reports to the program controller (spec/01 R21) -/

/-- An update of the running phase. -/
def onPhase (f : RunningPhase → RunningPhase) (s : State) : State :=
  s.onProg (fun p => { p with phase := p.phase.map f })

/-- The end of the current stage is reported and kept; the first report stands (R21). -/
def reportEnd (e : StageEnd) (s : State) : State :=
  onPhase (fun ph => if ph.stageEnd.isSome then ph else { ph with stageEnd := some e }) s

/-- The current stage is that one and its end has not been reported. -/
def stageOpen (s : State) (st : Stage) : Bool :=
  match runningPhase s with
  | some (_, ph) => ph.stage == st && ph.stageEnd.isNone
  | none => false

/-- An update of the hold-cause set of the running phase (R22). -/
def onHolds (f : HoldSet → HoldSet) (s : State) : State :=
  if (runningPhase s).isSome then s.onProg (fun p => { p with holds := f p.holds }) else s

end Sys2Proof.Machine
end

