-- ==== Sys2Proof/Machine/Dose.lean ====
section
/-!
DEFINITION. The dose computer (spec/05): soil classification, the detergent and rinse-aid formulas, strokes and carry.
-/

namespace Sys2Proof.Machine

/-- clamp(x, lo, hi) of spec/00_scope.md 3.2. -/
def clampNat (x lo hi : Nat) : Nat := if x < lo then lo else if hi < x then hi else x

/-- The class of a reading 1..1022 (R101, Table 5-2). -/
def classify (cal : Settings) (r : Nat) : Fin 4 :=
  if r < cal.t1 then 0 else if r < cal.t2 then 1 else if r < cal.t3 then 2 else 3

/-- One turbidity reading handed to the dose computer (R101, R102): the class, and SOIL_SENSOR set and logged on a
reading of 0 or 1023. -/
def soilReading (r : Turbidity) (s : State) : Fin 4 × State :=
  if r.toNat = 0 ∨ r.toNat = 1023 then
    (1, logFault .soilSensor .doseComputer (some r.toNat) (onStanding (fun x => { x with soilSensor := true }) s))
  else (classify s.cal r.toNat, s)

/-- The soil sample at the end of HOLDING (spec/01 R27): with SOIL_SENSOR standing no reading is taken and the class
is 1; the class becomes the program's and is recorded in the phase. -/
def takeSoilSample (r : Turbidity) (s : State) : State :=
  let (c, s) := if s.notes.standing.soilSensor then ((1 : Fin 4), s) else soilReading r s
  onPhase (fun ph => { ph with sample := some c }) (s.onProg (fun p => { p with soilClass := c }))

/-- A free turbidity reading, for a sample that no command carries (log 7). -/
def drawTurbidity (s : State) : Turbidity × State :=
  (Config.turbidity s.samples, { s with samples := s.samples + 1 })

/-- The soil factor of a class (Table 5-1). -/
def soilFactor (cal : Settings) (c : Fin 4) : Nat :=
  if c = 0 then cal.f0 else if c = 1 then cal.f1 else if c = 2 then cal.f2 else cal.f3

/-- W, base and scaled of the detergent formula (R104, R105). -/
def detergentWorking (cal : Settings) (c : Fin 4) (v vSoft vHard : Nat) : DoseWorking :=
  let w := v * cal.bd + cal.kh * (vSoft * min cal.hardness cal.hres + vHard * cal.hardness)
  let base := w / 1000
  ⟨w, base, base * soilFactor cal c / 100⟩

/-- The plan from a formula result and its clamp limits, with the clamp field (R105). -/
def clampPlan (scaled lo hi : Nat) : Nat × Clamp :=
  (clampNat scaled lo hi, if scaled ≤ lo then .min else if hi < scaled then .max else .none)

/-- Conversion into whole strokes (R107): planned strokes and carry out. -/
def strokesOf (plan carry vs : Nat) : Nat × Nat :=
  let total := plan + carry
  (total / vs, total - total / vs * vs)

/-- The detergent plan of the current fill record (R103 to R105, R107) and the new detergent carry. -/
def planDetergent (s : State) : DosePlan × Nat :=
  let (v, vSoft, vHard) := match s.water.record with
    | some r => (r.v, r.vSoft, r.vHard)
    | none => (0, 0, 0)
  let k := detergentWorking s.cal s.prog.soilClass v vSoft vHard
  let (plan, cl) := clampPlan k.scaled s.cal.dminD s.cal.dmaxD
  let (n, carry) := strokesOf plan s.dose.carryD s.cal.vsD
  ({ reservoir := .detergent, amounts := some ⟨plan, cl, s.dose.carryD, carry⟩, soilClass := some s.prog.soilClass,
     stroke := s.cal.vsD, planned := n, delivered := 0, shortfall := 0, withdrawn := 0, working := some k }, carry)

/-- The rinse-aid plan (R106, R107) and the new rinse-aid carry. -/
def planRinse (s : State) : DosePlan × Nat :=
  if s.cal.rinseLevel = 0 then
    ({ reservoir := .rinseAid, amounts := none, soilClass := none, stroke := s.cal.vsR, planned := 0, delivered := 0,
       shortfall := 0, withdrawn := 0, working := none }, s.dose.carryR)
  else
    let (plan, cl) := clampPlan (s.cal.rinseLevel * s.cal.ur) s.cal.dminR s.cal.dmaxR
    let (n, carry) := strokesOf plan s.dose.carryR s.cal.vsR
    ({ reservoir := .rinseAid, amounts := some ⟨plan, cl, s.dose.carryR, carry⟩, soilClass := none,
       stroke := s.cal.vsR, planned := n, delivered := 0, shortfall := 0, withdrawn := 0, working := none }, carry)

/-- One plan is built at the entry of DOSING (R103): a detergent plan for a record with the detergent flag, else a
rinse-aid plan. -/
def buildPlan (r : PhaseRecord) (s : State) : State :=
  if r.detergent then
    let (p, c) := planDetergent s
    s.onDose (fun d => { d with carryD := c, plan := some p })
  else
    let (p, c) := planRinse s
    s.onDose (fun d => { d with carryR := c, plan := some p })

end Sys2Proof.Machine
end

