-- ==== Sys2Proof/Machine/Rod.lean ====
section
/-!
DEFINITION. The door-opener unit's shared operations (spec/07): encoder steps, motions, their ends, and the decisions of
the DRY stages OPENING and RETRACTING.
-/

namespace Sys2Proof.Machine

/-! ### Counting (R130) -/

/-- Saturation of the position count. -/
def satCount (n : Int) : Int := max (-32768) (min 32767 n)

/-- The step from one state of the line pair to another: 1 outward, -1 inward, 0 when both lines or none changed (R130). -/
def encoderStep (a b a' b' : Bool) : Int :=
  match (a, b), (a', b') with
  | (false, false), (true, false) => 1
  | (false, false), (false, true) => -1
  | (true, false), (true, true) => 1
  | (true, false), (false, false) => -1
  | (true, true), (false, true) => 1
  | (true, true), (true, false) => -1
  | (false, true), (false, false) => 1
  | (false, true), (true, true) => -1
  | _, _ => 0

/-! ### Motions (R139 to R143) -/

/-- An update of the motion in progress. -/
def onMotion (f : Motion → Motion) (s : State) : State :=
  s.onRod (fun r => { r with motion := r.motion.map f })

/-- The drive state of R140 at a count: SLOW for an approach (R133). -/
def driveAt (m : Motion) (count : Int) : Drive :=
  match m.kind with
  | .approach _ _ => .slow
  | .move _ target slow stop =>
    match m.direction with
    | .outward =>
      if (target : Int) - stop ≤ count then .settling
      else if (target : Int) - slow ≤ count then .slow else .fast
    | .inward =>
      if count ≤ (target : Int) + stop then .settling
      else if count ≤ (target : Int) + slow then .slow else .fast

/-- A motion that drives (FAST or SLOW, not paused). -/
def Motion.driving (m : Motion) : Bool := !m.paused && (m.drive == .fast || m.drive == .slow)

/-- The drive state formed anew from the count when the motion drives. -/
def Motion.reform (m : Motion) (count : Int) : Motion :=
  if m.drive = .fast ∨ m.drive = .slow then { m with drive := driveAt m count } else m

/-- A motion in progress is withdrawn (R143): it ends WITHDRAWN without a settle. -/
def withdrawMotion (s : State) : State :=
  match s.rod.motion with
  | some m => s.onRod (fun r => { r with motion := none, last := some (.withdrawn, m.client) })
  | none => s

/-- The slot's values (R136). -/
def slotAt (cal : Settings) (n : Nat) : Slot := (cal.slots[n]?).getD ⟨0, 0, 0⟩

/-- A MOVE to a slot begins (R139): the motion in progress is withdrawn, the slot's values are latched, the direction
is fixed; a count within the stop lead, or an outward direction that is not allowed, goes straight to SETTLING. Within the
stop lead R139 gives no direction: it is OUTWARD below the target, else INWARD (DESIGN CHOICE, log 46). -/
def beginMove (client : MotionClient) (slot : Nat) (outwardAllowed : Bool) (s : State) : State :=
  let s := withdrawMotion s
  let sl := slotAt s.cal slot
  let diff : Int := s.rod.count - (sl.target : Int)
  let dir : Direction := if s.rod.count < (sl.target : Int) then .outward else .inward
  let m : Motion := ⟨.move slot sl.target sl.slowLead sl.stopLead, client, dir, .fast, false, 0, 0, 0, 0, 0⟩
  let drive : Drive :=
    if diff.natAbs ≤ sl.stopLead then .settling
    else if dir = .outward ∧ outwardAllowed = false then .settling
    else driveAt m s.rod.count
  s.onRod (fun r => { r with motion := some { m with drive := drive } })

/-- The REFERENCED end of an approach (R133): count 0, referenced, REFERENCE_FAIL removed. -/
def referencedEnd (client : MotionClient) (s : State) : State :=
  onStanding (fun x => { x with referenceFail := false })
    (s.onRod (fun r => { r with count := 0, referenced := true, motion := none, last := some (.referenced, client) }))

/-- The motion is a reference approach (R139). -/
def Motion.isApproach (m : Motion) : Bool :=
  match m.kind with
  | .approach _ _ => true
  | .move _ _ _ _ => false

/-- An approach is in progress. -/
def approachInProgress (s : State) : Bool :=
  match s.rod.motion with
  | some m => m.isApproach
  | none => false

/-- A START approach is in progress: a MOVE asked for meanwhile waits for its end (R139, R145). -/
def startApproach (s : State) : Bool :=
  match s.rod.motion with
  | some m => m.isApproach && m.client == .start
  | none => false

/-- A reference approach is asked for (R133, R135): absorbed by one in progress; ended at once when the home switch
reads closed; otherwise begun inward and slow. -/
def askApproach (client : MotionClient) (s : State) : State :=
  if approachInProgress s then s
  else if s.mon.home.state then referencedEnd client (withdrawMotion s)
  else
    let s := withdrawMotion s
    s.onRod (fun r =>
      { r with motion := some ⟨.approach r.count 0, client, .inward, .slow, false, 0, 0, 0, 0, 0⟩ })

/-- A motion enters or leaves PAUSED as its causes come and go (R143): its timers keep their values; on resuming, FAST
and SLOW are formed anew and the stall timer restarts from zero as the motor turns on (R142, log 40). -/
def pauseMotion (s : State) : State :=
  match s.rod.motion with
  | none => s
  | some m =>
    if motionHeld s m then
      onMotion (fun m => { m with paused := true }) s
    else if m.paused then
      onMotion (fun m => { (m.reform s.rod.count) with paused := false, stallTimer := 0 }) s
    else s

/-- The stall timer is reset when the motor turns off for a settle or a retry wait (R142). -/
def zeroMotionStall (s : State) : State :=
  onMotion (fun m => if m.drive = .settling ∨ m.drive = .retryWait then { m with stallTimer := 0 } else m) s

/-! ### DRY stages (R145 to R148) -/

/-- "Position miss" is set. -/
def setMiss (s : State) : State := s.onRod (fun r => { r with positionMiss := true })

/-- The end of OPENING or its move, once no START approach is in progress (R145). -/
def decideOpening (s : State) : State :=
  if s.rod.referenced = false ∨ s.notes.standing.referenceFail = true then
    reportEnd (.goto .airing) (s.onRod (fun r => { r with closedDrying := true }))
  else
    match runningPhase s with
    | some (r, _) => beginMove .dry (r.openSlot.getD 0) true s
    | none => s

/-- RETRACTING on an unreferenced rod: cases 3, 4 and 5 of R148. -/
def decideUnreferenced (s : State) : State :=
  if s.mon.home.state then reportEnd .done s
  else if s.notes.standing.referenceFail then reportEnd .done (setMiss s)
  else askApproach .dry s

/-- The entry of RETRACTING (R148). -/
def decideRetract (s : State) : State :=
  if s.notes.standing.rodStuck then reportEnd .done (if rodHome s then s else setMiss s)
  else if s.rod.referenced then beginMove .dry 0 false s
  else decideUnreferenced s

/-- The count lies more than 15 counts from the target of that slot's move (R140, R146). -/
def farFrom (m : Motion) (count : Int) : Bool :=
  match m.kind with
  | .move _ target _ _ => decide (15 < (count - (target : Int)).natAbs)
  | .approach _ _ => false

/-- What the end of a motion means to the running DRY phase (R145, R146, R148). -/
def dryMotionEnd (m : Motion) (o : Outcome) (s : State) : State :=
  if stageOpen s .opening then
    match m.client with
    | .start => decideOpening s
    | .dry =>
      match o with
      | .inPosition | .referenced => reportEnd (.goto .airing) s
      | .miss | .overtravel | .encoder => reportEnd (.goto .airing) (setMiss s)
      | .obstructed =>
        if (s.cal.releaseLower : Int) ≤ s.rod.count then
          reportEnd (.goto .airing) (if farFrom m s.rod.count then setMiss s else s)
        else reportEnd (.goto .retracting) (s.onRod (fun r => { r with openingBlocked := true }))
      | .stuck | .failed => reportEnd (.goto .retracting) (s.onRod (fun r => { r with openingBlocked := true }))
      | .withdrawn => s
    | .cancel | .service => s
  else if stageOpen s .retracting then
    match m.client, m.kind, o with
    | .dry, .move _ _ _ _, .encoder => decideUnreferenced s
    | .dry, _, .inPosition | .dry, _, .referenced | .start, _, .referenced => reportEnd .done s
    | .dry, _, .withdrawn | .start, _, .withdrawn => s
    | .dry, _, _ | .start, _, _ => reportEnd .done (setMiss s)
    | .cancel, _, _ | .service, _, _ => s
  else s

/-- A motion ends with an outcome (R139): the motor demand goes, the outcome is kept and the DRY phase told. -/
def endMotion (o : Outcome) (s : State) : State :=
  match s.rod.motion with
  | none => s
  | some m =>
    dryMotionEnd m o (s.onRod (fun r => { r with motion := none, last := some (o, m.client) }))

/-- The REFERENCED end of the approach in progress (R133). -/
def endReferenced (s : State) : State :=
  match s.rod.motion with
  | none => s
  | some m => dryMotionEnd m .referenced (referencedEnd m.client s)

/-- An approach that reaches a limit fails (R134): FAILED, REFERENCE_FAIL set and logged unless it stands. A SERVICE approach
on a referenced rod leaves it referenced as it was (DEDUCED, log 47). -/
def failApproach (s : State) : State :=
  match s.rod.motion with
  | none => s
  | some m =>
    match m.kind with
    | .move _ _ _ _ => s
    | .approach start _ =>
      let travel : Int := start - s.rod.count
      let s := s.onRod (fun r => { r with motion := none, last := some (.failed, m.client) })
      let s :=
        if s.notes.standing.referenceFail then s
        else logFault .referenceFail .doorOpener (some travel) (onStanding (fun x => { x with referenceFail := true }) s)
      dryMotionEnd m .failed s

/-- The third invalid transition of a motion (R131): ENCODER, unreferenced, set and logged unless it stands. -/
def encoderEnd (s : State) : State :=
  match s.rod.motion with
  | none => s
  | some m =>
    let s := s.onRod (fun r => { r with motion := none, last := some (.encoder, m.client), referenced := false })
    let s :=
      if s.notes.standing.encoder then s
      else logFault .encoder .doorOpener (some s.rod.count) (onStanding (fun x => { x with encoder := true }) s)
    dryMotionEnd m .encoder s

/-- A second inward stall (R142): STUCK, ROD_STUCK set and logged unless it stands; the referenced flag stays as it was (log
47). -/
def stuckEnd (s : State) : State :=
  match s.rod.motion with
  | none => s
  | some m =>
    let s := s.onRod (fun r => { r with motion := none, last := some (.stuck, m.client) })
    let s :=
      if s.notes.standing.rodStuck then s
      else logFault .rodStuck .doorOpener (some s.rod.count) (onStanding (fun x => { x with rodStuck := true }) s)
    dryMotionEnd m .stuck s

end Sys2Proof.Machine
end

