-- ==== Sys2Proof/Machine/Strokes.lean ====
section
/-!
DEFINITION. Stroke delivery (spec/06 R115 to R121): the stroke check, the end of a stroke, the withdrawal, run-outs.
-/

namespace Sys2Proof.Machine

/-- Strokes of the plan whose fate is decided (R119). -/
def DosePlan.counted (p : DosePlan) : Nat := p.delivered + p.shortfall + p.withdrawn

/-- Strokes of the plan not yet counted (R119). -/
def DosePlan.uncounted (p : DosePlan) : Nat := p.planned - p.counted

/-- An update of the plan that stands. -/
def onPlan (f : DosePlan → DosePlan) (s : State) : State :=
  s.onDose (fun d => { d with plan := d.plan.map f })

/-- Every stroke not yet counted becomes shortfall (R116, R118). -/
def allShortfall (s : State) : State := onPlan (fun p => { p with shortfall := p.shortfall + p.uncounted }) s

/-- RES_EMPTY_D or RES_EMPTY_R. -/
def resEmpty : Reservoir → NoticeKind
  | .detergent => .resEmptyD
  | .rinseAid => .resEmptyR

/-- In DOSING with no stroke in flight: the stage is finished when every planned stroke is counted; otherwise, unless
suspended, the stroke check of Table 6-2 begins a stroke or turns the rest into shortfall (R115, R116, R120). -/
def nextStroke (s : State) : State :=
  match s.dose.plan with
  | none => s
  | some p =>
    if stageOpen s .dosing = false ∨ s.dosing.stroke.isSome = true then s
    else if p.uncounted = 0 then reportEnd .finished s
    else if suspended s then s
    else if pumpFault s p.reservoir then reportEnd .finished (allShortfall s)
    else
      let a := s.dosing.get p.reservoir
      if a.known = true ∧ a.account < p.stroke then
        reportEnd .finished (raiseAll (resEmpty p.reservoir) (allShortfall s))
      else s.onDosing (fun d => { d with stroke := some 0 })

/-- The stroke in flight ends delivered (R117 steps 1 to 3, R121 step 1): counted, and charged to a known account. -/
def deliverStroke (s : State) : State :=
  match s.dose.plan with
  | none => s.onDosing (fun d => { d with stroke := none })
  | some p =>
    onReservoir p.reservoir (chargeStroke p.stroke)
      (onPlan (fun p => { p with delivered := p.delivered + 1 }) (s.onDosing (fun d => { d with stroke := none })))

/-- The pump fault of a reservoir is set and logged, unless it stands (R118). -/
def setPumpFault (r : Reservoir) (detail : Option Int) (s : State) : State :=
  if pumpFault s r then s
  else match r with
    | .detergent => logFault .pumpD .dosingUnit detail (onStanding (fun x => { x with pumpD := true }) s)
    | .rinseAid => logFault .pumpR .dosingUnit detail (onStanding (fun x => { x with pumpR := true }) s)

/-- At a phase's end CANCELLED or FAULTED with strokes not yet counted (R121): a stroke in flight is delivered and its
pump runs out with the stroke's timer; the rest are withdrawn. A run-out of the same reservoir that still runs gives way
to the new one (DESIGN CHOICE, log 52). -/
def withdrawStrokes (s : State) : State :=
  match s.dose.plan, s.dosing.stroke with
  | some p, some t =>
    onPlan (fun p => { p with withdrawn := p.withdrawn + p.uncounted })
      (onReservoir p.reservoir (fun x => { x with runOut := some t }) (deliverStroke s))
  | some _, none => onPlan (fun p => { p with withdrawn := p.withdrawn + p.uncounted }) s
  | none, _ => s

/-- The run-out of a reservoir, if any, ends (R121). -/
def endRunOut (r : Reservoir) (s : State) : State := onReservoir r (fun x => { x with runOut := none }) s

/-- The run-out of a reservoir is the first of its two stroke timers to expire: no stroke of the reservoir is in flight, or
the run-out's timer stands no lower than that stroke's (R118, R121, log 29). -/
def runOutLeads (r : Reservoir) (s : State) : Bool :=
  match (s.dosing.get r).runOut with
  | some t => !strokeInFlight s r || decide (s.dosing.stroke.getD 0 ≤ t)
  | none => false

/-- The forced layer ends every run-out without a fault (R121). -/
def stopRunOuts (s : State) : State :=
  if forcedOff s then
    s.onDosing (fun d => { d with detergent := { d.detergent with runOut := none },
                                  rinseAid := { d.rinseAid with runOut := none } })
  else s

end Sys2Proof.Machine
end

