-- ==== Sys2Proof/Machine/Thermal.lean ====
section
/-!
DEFINITION. The thermal and circulation unit's shared operations (spec/03): the regulator and the rise check, the
diverter's wanted zone, drain jobs.
-/

namespace Sys2Proof.Machine

/-! ### Heater regulator and rise check (R55 to R57) -/

/-- The regulator formed at a stage's entry at working temperature `w`; OFF while it is absent (R52, Table 3-1). -/
def formRegulator (heating : Bool) (target : Nat) (w : Option Nat) : Bool :=
  match w with
  | some t => if heating then decide (t < target) else decide (t + 4 < target)
  | none => false

/-- The regulator after a new working temperature (Table 3-1, in half degrees). -/
def stepRegulator (heating : Bool) (target t : Nat) (on : Bool) : Bool :=
  if target ≤ t then false
  else if heating then (if t + 2 < target then true else on)
  else (if t + 4 < target then true else on)

/-- "Target reached" is reported (R56): the phase has heated, the rise check stops and the stage's end is kept. -/
def targetReached (s : State) : State :=
  reportEnd .finished
    (onPhase (fun ph => { ph with heated := true })
      (s.onTherm (fun t => { t with rise := none })))

/-- The heater work of a HEATING stage at its entry or at the end of a suspension (R55 to R57). -/
def placeHeating (target : Nat) (s : State) : State :=
  let s := s.onTherm (fun t =>
    { t with regulator := some (formRegulator true target t.working)
             rise := t.working.map (fun w => ⟨0, w⟩) })
  match s.therm.working with
  | some w => if target ≤ w then targetReached s else s
  | none => s

/-- The heater work of a heated HOLDING stage at its entry or at the end of a suspension (R55, R59). -/
def placeHolding (target : Nat) (s : State) : State :=
  s.onTherm (fun t => { t with regulator := some (formRegulator false target t.working) })

/-- At a suspension no regulator state is kept and the rise-check window is reset (R55, R57): it is dropped, and READ
STATUS reports it absent, until the end of the suspension gives a new reference (DESIGN CHOICE, log 43). -/
def dropHeating (s : State) : State := s.onTherm (fun t => { t with regulator := none, rise := none })

/-! ### Diverter (R65, R66) -/

/-- The zone asked for at the start of circulation; ALTERNATE asks for LOWER first (R65, R66). -/
def firstZone : Zones → WantedZone
  | .both => .both
  | .lower | .alternate => .lower
  | .upper => .upper

/-- The ALTERNATE switching time, 30 s (R66). -/
def alternateMs : Nat := 30000

/-- The running phase asks for ALTERNATE. -/
def alternating (s : State) : Bool :=
  match runningPhase s with
  | some (r, _) => r.zones == some .alternate
  | none => false

/-- The switching timer starts when the position is in the wanted set of an ALTERNATE phase; at a position outside it the
diverter drives again and no timer runs (R66). -/
def startAlternate (s : State) : State :=
  match s.therm.wanted with
  | some z => s.onTherm (fun t =>
      { t with alternate := if alternating s && inWantedSet z s.therm.position then some alternateMs else none })
  | none => s

/-- The start of circulation: the wanted zone is placed (R63, R65, R66). -/
def startCirculation (r : PhaseRecord) (s : State) : State :=
  startAlternate (s.onTherm (fun t => { t with wanted := r.zones.map firstZone, alternate := none }))

/-- The end of circulation: heater, circulation and diverter demands go, the switching timer is discarded (R59, R63, R66). -/
def endCirculation (s : State) : State :=
  s.onTherm (fun t => { t with regulator := none, rise := none, hold := none, wanted := none, alternate := none })

/-- The diverter stall timer is reset while the motor's final state is off (R67). -/
def zeroDivStall (s : State) : State :=
  if diverterFinal s then s else s.onTherm (fun t => { t with divStall := 0 })

/-! ### Drain jobs (R68 to R72) -/

/-- A drain job is created (R68). -/
def createDrain (kind : DrainKind) (window : Bool) (s : State) : State :=
  s.onTherm (fun t =>
    { t with drain := some ⟨kind, if levelWater s then .pumping else .tailing, 0, 0, window⟩ })

/-- An update of the drain job. -/
def onDrain (f : DrainJob → DrainJob) (s : State) : State :=
  s.onTherm (fun t => { t with drain := t.drain.map f })

/-- A job ends COMPLETE (R68): DRAINING's end is reported; or CANCELLING is left for IDLE with the tank-wet flag
clear (spec/01 R13, R14). -/
def completeDrain (s : State) : State :=
  match s.therm.drain with
  | none => s
  | some j =>
    let s := s.onTherm (fun t => { t with drain := none })
    match j.kind with
    | .phase => if stageOpen s .draining then reportEnd .finished s else s
    | .cancel =>
      if s.prog.state = .cancelling then s.onProg (fun p => { p with state := .idle, tankWet := false }) else s

/-- The regeneration extension ends: a DRY_HELD job ends COMPLETE at once (R71). -/
def endExtension (s : State) : State :=
  match s.therm.drain with
  | some j => if j.state = .dryHeld then completeDrain s else s
  | none => s

end Sys2Proof.Machine
end

