-- ==== Sys2Proof/Machine/Water.lean ====
section
/-!
DEFINITION. Water intake's shared operations (spec/02): counters, the split of an increment, the inlet arbiter and its
settle window, service fills.
-/

namespace Sys2Proof.Machine

/-- The settle window's length, 2 s (R38). -/
def settleMs : Nat := 2000

/-! ### Counters (R32 to R34) -/

/-- The volume of `p` pulses at flow constant `q` (R32), held at 800 mL above the target (R34, log 12). -/
def fillVolume (target : Option Nat) (q p : Nat) : Nat :=
  match target with
  | some t => min (p * q / 100) (t + 800)
  | none => p * q / 100

/-- One pulse counted by a record, without its split; the pulse count saturates at 65,535 (R33 step 1, R35). -/
def FillRecord.pulse (r : FillRecord) : FillRecord :=
  let p := min 65535 (r.p + 1)
  { r with p := p, v := fillVolume r.target r.q p }

/-- One pulse counted by a softener counter (R33). -/
def SoftCounter.pulse (c : SoftCounter) : SoftCounter :=
  let p := min 65535 (c.p + 1)
  { c with p := p, v := fillVolume (some c.target) c.q p }

/-- A fresh wash fill record, q latched (R32, R34, R35). -/
def washRecord (target q : Nat) : FillRecord := ⟨.wash, some target, q, 0, 0, 0, 0, none, false⟩

/-- A fresh service fill record (R48). -/
def serviceRecord (q : Nat) : FillRecord := ⟨.service, none, q, 0, 0, 0, 0, none, false⟩

/-! ### The split of an increment (spec/04 R78, Table 4-2) -/

/-- C after, softened part and hard part of an increment `d` at hardness difference `D`. -/
def splitIncrement (D c d : Nat) : Nat × Nat × Nat :=
  if D = 0 then (c, d, 0)
  else if d * D ≤ c then (c - d * D, d, 0)
  else (c - c / D * D, c / D, d - c / D)

/-- In IDLE, C below T schedules a regeneration (spec/04 R81). -/
def checkThreshold (s : State) : State :=
  if s.soft.state = .idle ∧ s.soft.c < thresholdT s then s.onSoft (fun f => { f with state := .pending }) else s

/-- A pulse counted by a fill record and split (R33 steps 1 and 2, R48): through the softener, or, with the route
valve at the salt container during a service fill, all hard. Answers the record and the state with C charged. -/
def pulseRecord (r : FillRecord) (s : State) : FillRecord × State :=
  let r' := r.pulse
  let d := r'.v - r.v
  let s := s.onSoft (fun f => { f with retryBlock := false })
  if r.origin = .service ∧ routeFinal s = true then ({ r' with vHard := r.vHard + d }, s)
  else
    let (c, soft, hard) := splitIncrement (hardnessD s) s.soft.c d
    ({ r' with vSoft := r.vSoft + soft, vHard := r.vHard + hard },
      checkThreshold (s.onSoft (fun f => { f with c := c })))

/-! ### The inlet arbiter (R37 to R39) -/

/-- A client becomes holder; its stall timer starts afresh. -/
def grant (c : Client) (s : State) : State :=
  s.onWater (fun w => { w with holder := some c, stall := 0 })

/-- WASH_FILL asks for the inlet: granted, or it waits under INLET (R37, spec/01 R26). -/
def askWash (s : State) : State :=
  if s.water.holder = some .wash ∨ s.water.waitWash = true then s
  else if grantable s then grant .wash s
  else onHolds (fun h => { h with inlet := true }) (s.onWater (fun w => { w with waitWash := true }))

/-- The softener asks for the inlet as BRINE_FILL or RESIN_RINSE with a new counter (R34, R37). -/
def askSoft (c : SoftClient) (target : Nat) (s : State) : State :=
  let s := s.onWater (fun w => { w with softCounter := some ⟨target, s.cal.flowQ, 0, 0, none⟩ })
  if grantable s then grant (match c with | .brine => .brine | .rinse => .rinse) s
  else s.onWater (fun w => { w with waitSoft := some c })

/-- The window's owner for a client. -/
def Client.owner : Client → WindowOwner
  | .wash => .wash
  | .brine => .brine
  | .rinse => .rinse

/-- The holder's grant is released and its settle window begins (R38); a softener client's counter goes with it. A window that
still runs, in a state that no run reaches, is replaced (log 27). -/
def releaseHolder (s : State) : State :=
  match s.water.holder with
  | none => s
  | some c =>
    s.onWater (fun w =>
      { w with holder := none, stall := 0,
               window := some ⟨c.owner, settleMs, if c = .wash then none else w.softCounter, none⟩,
               softCounter := if c = .wash then w.softCounter else none })

/-- An ending written into the current wash fill record when it has none (R36). -/
def endWashRecord (e : FillEnding) (s : State) : State :=
  s.onWater (fun w =>
    { w with record := w.record.map (fun r =>
        if r.origin = .wash ∧ r.ending = none then { r with ending := some e } else r) })

/-- An ending written into the softener client's counter (R36). -/
def endSoftCounter (e : FillEnding) (s : State) : State :=
  s.onWater (fun w => { w with softCounter := w.softCounter.map (fun c => { c with ending := some e }) })

/-- The holder's fill ends: the ending is written, the grant released, the settle window begun (R36). -/
def endHolderFill (e : FillEnding) (s : State) : State :=
  match s.water.holder with
  | none => s
  | some .wash => releaseHolder (endWashRecord e s)
  | some .brine | some .rinse => releaseHolder (endSoftCounter e s)

/-- The settle window that runs belongs to the current wash fill (R31, R35). -/
def ownWashWindow (w : Water) : Bool :=
  match w.window with
  | some x => x.owner == .wash && x.kept.isNone
  | none => false

/-- The current wash fill becomes final, and FILLING is reported finished (R36, spec/01 R19). -/
def washFinal (s : State) : State :=
  let s := s.onWater (fun w =>
    { w with record := w.record.map (fun r => if r.origin = .wash then { r with isFinal := true } else r) })
  if stageOpen s .filling then reportEnd .finished s else s

/-- A wash fill asks again after a stall (R36, R43): with nothing remaining it ends TARGET at once, final when no
window of its own runs; otherwise the arbiter is asked. -/
def retryWash (s : State) : State :=
  match s.water.record with
  | some r =>
    if r.met then
      let s := endWashRecord .target s
      if ownWashWindow s.water then s else washFinal s
    else askWash s
  | none => s

/-- A record about to be replaced is kept by the window that runs for its fill (R35, log 14). -/
def keepInWindow (w : Water) : Option SettleWindow :=
  w.window.map (fun x =>
    if (x.owner = .wash ∨ x.owner = .service) ∧ x.kept = none then { x with kept := w.record } else x)

/-- A WASH_FILL is requested for a phase's FILLING stage: a new record, the stall count 0, and the arbiter asked (R34,
R35, spec/01 R25). -/
def requestWash (target : Nat) (s : State) : State :=
  let s := s.onWater (fun w => { w with window := keepInWindow w, record := some (washRecord target s.cal.flowQ) })
  askWash (s.onProg (fun p => { p with stallCount := 0, retry := none }))

/-- The wash fill is withdrawn with its phase (R36, R39): a holder releases, a waiter leaves its place, and a fill
with no window of its own is final at once, as R36 has it for a retry and for a withdrawal does not say (DEDUCED, log 50). -/
def withdrawWash (s : State) : State :=
  if s.water.holder = some .wash then endHolderFill .cancelled s
  else
    let s := s.onWater (fun w => { w with waitWash := false })
    match s.water.record with
    | some r =>
      if r.origin = .wash ∧ r.ending = none then
        let s := endWashRecord .cancelled s
        if ownWashWindow s.water then s
        else s.onWater (fun w => { w with record := w.record.map (fun r => { r with isFinal := true }) })
      else s
    | none => s

/-- The softener withdraws its place at the arbiter (R39): a holder's fill ends CANCELLED and its window begins; a
waiter leaves. -/
def withdrawSoft (s : State) : State :=
  match s.water.holder with
  | some .brine | some .rinse => endHolderFill .cancelled s
  | some .wash | none => s.onWater (fun w => { w with waitSoft := none, softCounter := none })

/-- A holder that asks for water with nothing remaining ends TARGET at once (R36 for the retry; log 13). -/
def endMetWash (s : State) : State :=
  match s.water.holder, s.water.record with
  | some .wash, some r =>
    if r.met && wetRunning s && !suspended s then endHolderFill .target s else s
  | _, _ => s

/-! ### Service fills (R48) -/

/-- The inlet valve's override changes from off to on: a service fill begins. -/
def beginServiceFill (s : State) : State :=
  s.onWater (fun w => { w with window := keepInWindow w, record := some (serviceRecord s.cal.flowQ) })

/-- The inlet valve's override changes to off: a service fill with no ending ends CANCELLED, and its settle window
begins (log 27). -/
def endServiceFill (s : State) : State :=
  s.onWater (fun w =>
    { w with
      record := w.record.map (fun r =>
        if r.origin = .service ∧ r.ending = none then { r with ending := some .cancelled } else r)
      window := some ⟨.service, settleMs, none, none⟩ })

end Sys2Proof.Machine
end

