-- ==== Sys2Proof/Machine/Stages.lean ====
section
/-!
DEFINITION. The program controller's stages (spec/01 1.4, 1.7): entry and end of each stage, begin and end of a phase,
and `finish`, which brings every block into line with the state an event leaves.
-/

namespace Sys2Proof.Machine

/-! ### Results (R28) -/

/-- The fill part of the running phase's result: its wash fill's volumes as they stand (R28). -/
def fillPart (s : State) : Option FillPart :=
  match s.water.record with
  | some r => if r.origin = .wash then some ⟨r.v, r.vSoft, r.vHard, r.overshoot⟩ else none
  | none => none

/-- The dose part of a reservoir: absent unless the plan that stands is dosed from it (R28, R106). -/
def dosePart (r : Reservoir) (s : State) : Option DosePart :=
  match s.dose.plan with
  | some p =>
    match p.amounts with
    | some a => if p.reservoir = r then some ⟨p.planned, p.delivered, p.shortfall, p.withdrawn, a.plan⟩ else none
    | none => none
  | none => none

/-- The result record of the running phase (R28); its sequence number is given by `placeResult`. -/
def runningResult (e : PhaseEnding) (r : PhaseRecord) (ph : RunningPhase) (s : State) : ResultRecord where
  sequence := 0
  tag := r.tag
  kind := r.kind
  ending := e
  fill := if r.kind.wet then fillPart s else none
  doseD := dosePart .detergent s
  doseR := dosePart .rinseAid s
  soilClass := ph.sample
  peak := ph.peak
  flags := ⟨ph.heatMissed, ph.heatSkipped, s.rod.openingBlocked, s.rod.closedEarly, s.rod.positionMiss,
    s.rod.closedDrying⟩
  duration := ph.age / 1000

/-- The result record of a record that never began (R28, spec/03 R54). -/
def unbegunResult (r : PhaseRecord) (s : State) : ResultRecord where
  sequence := 0
  tag := r.tag
  kind := r.kind
  ending := .cancelled
  fill := none
  doseD := none
  doseR := none
  soilClass := none
  peak := s.therm.working.getD 0
  flags := ⟨false, false, false, false, false, false⟩
  duration := 0

/-! ### Phase end -/

/-- The running phase ends (R5, R28): its result is handed over, PHASE_DONE raised for DONE, the checkpoint triggered;
then its record leaves the queue and everything kept for it is discarded. -/
def endPhase (e : PhaseEnding) (s : State) : State :=
  match s.prog.phase, s.prog.queue with
  | some ph, r :: rest =>
    let s := placeResult (runningResult e r ph s) s
    let s := if e = .done then raiseAll .phaseDone s else s
    let s := trigger s
    let s := s.onProg (fun p =>
      { p with queue := rest, phase := none, holds := HoldSet.empty, retry := none, doorQual := 0 })
    let s := endCirculation s
    let s := s.onDose (fun d => { d with plan := none })
    let s := s.onDosing (fun d => { d with stroke := none })
    s.onRod (fun r => { r with dryWait := none, airing := none, closedDrying := false, openingBlocked := false,
                               closedEarly := false, positionMiss := false })
  | _, _ => s

/-! ### Stage entries -/

/-- The running phase enters a stage. -/
def enterStage (st : Stage) (s : State) : State :=
  onPhase (fun ph => { ph with stage := st, stageEnd := none }) s

/-- The end of HOLDING (R59, R27): demands are withdrawn, the soil sample is taken if asked for, the end is reported. -/
def holdingOver (reading : Turbidity) (r : PhaseRecord) (s : State) : State :=
  let s := s.onTherm (fun t => { t with hold := none, regulator := none })
  let s := if r.kind = .pre ∧ r.soilSample = true then takeSoilSample reading s else s
  reportEnd .finished s

/-- HOLDING (R19, R59): the hold timer is loaded, a heated stage forms its regulator; a hold time of 0 expires at entry. -/
def enterHolding (r : PhaseRecord) (s : State) : State :=
  let heated := match s.prog.phase with | some ph => ph.heated | none => false
  let s := enterStage .holding s
  let s := s.onTherm (fun t => { t with regulator := none, rise := none, hold := some (r.holdTime * 1000) })
  let s := match r.heatTarget with
    | some target => if heated then placeHolding target s else s
    | none => s
  if r.holdTime = 0 then
    let (x, s) := if r.kind = .pre ∧ r.soilSample = true ∧ s.notes.standing.soilSensor = false then drawTurbidity s
                  else (0, s)
    holdingOver x r s
  else s

/-- HEATING is entered, or skipped into HOLDING (R18, R56). -/
def enterHeating (r : PhaseRecord) (s : State) : State :=
  match r.heatTarget with
  | none => enterHolding r s
  | some target =>
    if s.notes.standing.sensorTemp ∨ s.notes.standing.heater then
      enterHolding r (onPhase (fun ph => { ph with heatSkipped := true }) s)
    else placeHeating target (enterStage .heating s)

/-- The first stage after FILLING, where circulation begins: DOSING when a dose flag is set, else HEATING or HOLDING
(R18, R63, R103, R115). -/
def enterAfterFilling (r : PhaseRecord) (s : State) : State :=
  let s := startCirculation r s
  if r.doses then nextStroke (buildPlan r (enterStage .dosing s)) else enterHeating r s

/-- DRAINING: circulation has ended, a PHASE drain job is created (R19, R68). -/
def enterDraining (r : PhaseRecord) (s : State) : State :=
  createDrain .phase r.regenWindow (endCirculation (enterStage .draining s))

/-- DRY_WAIT (spec/07 R144): a door that reads open ends it with AIRING, then a hold time of 0 with OPENING. -/
def enterDryWait (r : PhaseRecord) (s : State) : State :=
  let s := s.onRod (fun x => { x with dryWait := some (r.holdTime * 1000) })
  if doorClosed s = false then reportEnd (.goto .airing) s
  else if r.holdTime = 0 then reportEnd (.goto .opening) s
  else s

/-- OPENING (R145): it waits for a START approach in progress. -/
def enterOpening (s : State) : State :=
  let s := enterStage .opening (s.onRod (fun x => { x with dryWait := none }))
  if startApproach s then s else decideOpening s

/-- AIRING (R147): an airing time of 0 expires at the entry. -/
def enterAiring (r : PhaseRecord) (s : State) : State :=
  let t := r.airing.getD 0
  let s := enterStage .airing (s.onRod (fun x => { x with dryWait := none, airing := some (t * 1000) }))
  if t = 0 then reportEnd (.goto .retracting) s else s

/-- RETRACTING (R148). -/
def enterRetracting (s : State) : State :=
  decideRetract (enterStage .retracting (s.onRod (fun x => { x with dryWait := none, airing := none })))

/-! ### Phase begin -/

/-- The causes whose condition stands at a phase's beginning (R22, R24): DOOR in a wet phase with the rod not home or
the door open, INHIBIT; and REGEN when the program has just moved to RUNNING (R26). -/
def beginningHolds (wet first : Bool) (s : State) : HoldSet :=
  { HoldSet.empty with
    door := wet && (!rodHome s || !doorClosed s)
    inhibit := inhibited s
    regen := first && s.soft.window == .standAlone && regenerating s }

/-- The head record begins in its first stage (R5, R19, R22, R54): FILLING asks for its wash fill, DRY_WAIT loads its
timer. `first` says that the program has just moved to RUNNING. A wash fill under REGEN asks like any other, and takes the
inlet that is free while the softener is still in stand-alone FLUSH (DEDUCED, log 54). -/
def beginPhase (first : Bool) (s : State) : State :=
  match s.prog.queue with
  | [] => s
  | r :: _ =>
    let wet := r.kind.wet
    let s := s.onProg (fun p =>
      { p with
        phase := some ⟨if wet then .filling else .dryWait, none, 0, s.therm.working.getD 0, false, false, false, none⟩
        holds := beginningHolds wet first s
        retry := none
        doorQual := 0 })
    if wet then requestWash (r.fillVolume.getD 0) s else enterDryWait r s

/-- After a DONE ending: the next record begins, or the program ends (R5, R15). -/
def nextOrEnd (s : State) : State :=
  match s.prog.queue with
  | [] => raiseAll .programEnd (s.onProg (fun p => { p with state := .idle }))
  | _ :: _ => beginPhase false s

/-! ### The stage transition (R18 to R21) -/

/-- The reported end of the current stage is acted on: the next stage is entered, or the phase ends DONE. -/
def leaveStage (r : PhaseRecord) (ph : RunningPhase) (e : StageEnd) (s : State) : State :=
  match ph.stage, e with
  | .filling, _ => enterAfterFilling r s
  | .dosing, _ => enterHeating r s
  | .heating, _ => enterHolding r s
  | .holding, _ => enterDraining r s
  | .draining, _ => nextOrEnd (endPhase .done (s.onProg (fun p => { p with tankWet := false })))
  | _, .goto .opening => enterOpening s
  | _, .goto .airing => enterAiring r s
  | _, .goto .retracting => enterRetracting s
  | _, _ => nextOrEnd (endPhase .done s)

/-- One stage transition, when the hold-cause set is empty and an end is reported (R21). -/
def stepStage (s : State) : State :=
  match runningPhase s with
  | some (r, ph) =>
    match ph.stageEnd with
    | some e => if suspended s then s else leaveStage r ph e s
    | none => s
  | none => s

/-- Stage transitions while an end is reported, at most `n` of them (log 32). -/
def runStages : Nat → State → State
  | 0, s => s
  | n + 1, s =>
    match runningPhase s with
    | some (_, ph) => if ph.stageEnd.isSome && !suspended s then runStages n (stepStage s) else s
    | none => s

/-- No event leads through more transitions than this (log 32). -/
def stageFuel : Nat := 12

/-! ### `finish`: after an event (R21 to R24, R143, R156) -/

/-- DOOR follows the door switch and rod home in a wet phase, and its qualification timer is reset while they fail (R24). -/
def watchDoor (s : State) : State :=
  if doorClosed s && rodHome s then s
  else
    let s := s.onProg (fun p => { p with doorQual := 0 })
    if wetRunning s then onHolds (fun h => { h with door := true }) s else s

/-- The demands of the current stage while the set is empty: a heater regulator that a suspension dropped is formed
again, the next stroke is checked and begun (R22, R55, R120). -/
def placeDemands (s : State) : State :=
  match runningPhase s with
  | none => s
  | some (r, ph) =>
    if ph.stage = .dosing then nextStroke s
    else if suspended s then dropHeating s
    else if ph.stageEnd.isSome ∨ s.therm.regulator.isSome then s
    else match ph.stage, r.heatTarget with
      | .heating, some target => placeHeating target s
      | .holding, some target => if ph.heated then placeHolding target s else s
      | _, _ => s

/-- The inlet valve opens for a WASH_FILL holder or under its override: it was closed when the outputs were last formed
(R13, log 49). -/
def inletOpens (s : State) : Bool :=
  inletFinal s && !s.water.inletOpen && (s.water.holder == some .wash || s.sup.overrides.inlet)

/-- What follows from the outputs' final states: a run-out ends in the forced layer, a motion pauses or resumes, a stall
timer is zero while its output is off, the tank is wet when the inlet valve opens for the wash or under an override
(R13, R42, R67, R121, R142, R143). -/
def followOutputs (s : State) : State :=
  let s := zeroDivStall (zeroMotionStall (pauseMotion (stopRunOuts s)))
  if inletFinal s then
    let t := s.onWater (fun w => { w with inletOpen := true })
    if inletOpens s then t.onProg (fun p => { p with tankWet := true }) else t
  else s.onWater (fun w => { w with stall := 0, inletOpen := false })

/-- Every block brought into line after an event: DOOR, stage transitions, demands, outputs. -/
def finish (s : State) : State :=
  followOutputs (endMetWash (runStages stageFuel (placeDemands (runStages stageFuel (watchDoor s)))))

/-- A wake, with the outputs formed anew (spec/08 R170). -/
def wakeUp (cause : WakeCause) (s : State) : State :=
  if s.sup.mode = .quiet then finish (wake cause s) else s

end Sys2Proof.Machine
end

