-- ==== Sys2Proof/Machine/Softener.lean ====
section
/-!
DEFINITION. The softener's shared operations (spec/04): restore, leaving FLUSH and RESIN_RINSE, aborts, windows, reports.
-/

namespace Sys2Proof.Machine

/-- The stand-alone drain tail, 15 s (R86). -/
def tailMs : Nat := 15000

/-- The restored account (R89 step 1). -/
def restoredC (cfull c f : Nat) : Nat := min cfull (c + cfull * f / 100)

/-- The softener has left FLUSH and RESIN_RINSE (R86, R88): the window is no longer in use; an extension ends and a
DRY_HELD job completes; REGEN is removed; a stand-alone window that was not aborted runs its tail unless the program
is RUNNING. -/
def afterRegen (aborted : Bool) (s : State) : State :=
  let w := s.soft.window
  let s := s.onSoft (fun f =>
    { f with window := .none, flush := none,
             tail := if w = .standAlone then
                 (if aborted = false ∧ s.prog.state ≠ .running then some tailMs else none)
               else f.tail })
  let s := onHolds (fun h => { h with regen := false }) s
  if w = .phase ∨ w = .cancel then endExtension s else s

/-- The restore (R89). The factor it used stays as it was: R84 holds it only until this restore, and READ STATUS (R96) goes
on showing it until the next end of DISSOLVE (DESIGN CHOICE, log 55). -/
def restore (s : State) : State :=
  let s := s.onSoft (fun f =>
    { f with c := restoredC s.cal.cfull f.c f.factor, regenCount := min 65535 (f.regenCount + 1) })
  let s := trigger (raiseAll .regenDone s)
  let s := checkThreshold (s.onSoft (fun f => { f with state := .idle }))
  afterRegen false s

/-- An abort at a leak onset or an inhibit assertion (R90, R91). -/
def abortRegen (s : State) : State :=
  match s.soft.state with
  | .brineFill => withdrawSoft (s.onSoft (fun f => { f with state := .pending }))
  | .flush => afterRegen true (s.onSoft (fun f => { f with state := .waitWindow, charged := true }))
  | .resinRinse => afterRegen true (withdrawSoft (s.onSoft (fun f => { f with state := .pending })))
  | .idle | .pending | .dissolve | .waitWindow => s

/-- The window in use closes without passing on (R92): FLUSH returns to WAIT_WINDOW with the brine charged; RESIN_RINSE
withdraws and goes on to the restore when its counter is final, at once when it had no grant (log 15). -/
def windowClosed (s : State) : State :=
  match s.soft.state with
  | .flush => afterRegen true (s.onSoft (fun f => { f with state := .waitWindow, charged := true }))
  | .resinRinse =>
    if s.water.waitSoft = some .rinse then restore (withdrawSoft (s.onSoft (fun f => { f with window := .none })))
    else withdrawSoft (s.onSoft (fun f => { f with window := .none }))
  | .idle | .pending | .brineFill | .dissolve | .waitWindow => s

/-- The report of a softener fill that has become final (R83, R88); it finds the softener's own fill only while no newer
place is held (log 38). -/
def softFinal (owner : WindowOwner) (c : Option SoftCounter) (s : State) : State :=
  if s.water.softCounter.isSome then s
  else match owner, s.soft.state with
    | .brine, .brineFill =>
      match c with
      | some x =>
        match x.ending with
        | some .target => s.onSoft (fun f => { f with state := .dissolve, dissolve := some (s.cal.dissolveTime * 1000) })
        | some .overfill => s.onSoft (fun f => { f with state := .pending })
        | some .cancelled | none => s
      | none => s
    | .rinse, .resinRinse => restore s
    | _, _ => s

/-- FLUSH is entered through a window of that kind (R85, R87). -/
def enterFlush (k : WindowKind) (s : State) : State :=
  s.onSoft (fun f =>
    { f with state := .flush, charged := false, flush := some (s.cal.flushTime * 1000), window := k })

end Sys2Proof.Machine
end

