-- ==== Sys2Proof/Machine/Control.lean ====
section
/-!
DEFINITION. The program controller's shared operations over the whole part (spec/01): entering RUNNING, CANCEL, program
faults; the mode's return from SERVICE.
-/

namespace Sys2Proof.Machine

/-- The program moves to RUNNING with the head record in its first stage (R7, R8, R10): the arm is cleared, a stand-alone
tail is cut short (spec/04 R86). -/
def enterRunning (s : State) : State :=
  let s := s.onProg (fun p => { p with state := .running, arm := false, delay := none })
  beginPhase true (s.onSoft (fun f => { f with tail := none }))

/-- What a taken START or REMOTE START sets (R7, R10, spec/03 R58): soil class 1, slow count 0, the arm clear, and a
reference approach when the rod is unreferenced. -/
def startCommon (s : State) : State :=
  let s := s.onProg (fun p => { p with arm := false, soilClass := 1 })
  let s := s.onTherm (fun t => { t with slowCount := 0 })
  if s.rod.referenced then s else askApproach .start s

/-- The stage work of the running phase is withdrawn from the owning blocks (R12, R16): the wash fill, the strokes, the
DRY motion, the PHASE drain job. The job's window is left to the caller. -/
def withdrawPhaseWork (s : State) : State :=
  let s := if stageIsFilling s then withdrawWash s else s
  let s := withdrawStrokes s
  let s : State := match s.rod.motion with
    | some m => if m.client = .dry then withdrawMotion s else s
    | none => s
  match s.therm.drain with
  | some j => if j.kind = .phase then s.onTherm (fun t => { t with drain := none }) else s
  | none => s
where
  /-- The running phase is in FILLING. -/
  stageIsFilling (s : State) : Bool := runningStage s == some .filling

/-- The running phase ends CANCELLED or FAULTED (R5): its work is withdrawn and its result handed over. -/
def abandonPhase (e : PhaseEnding) (s : State) : State :=
  if s.prog.phase.isSome then endPhase e (withdrawPhaseWork s) else s

/-- The program is faulted (R16): FAULTED, the running phase ends FAULTED, the records behind it stay, the arm is clear
and the start-delay timer discarded. -/
def faultProgram (s : State) : State :=
  let wasRunning := s.prog.state == .running
  let s := if wasRunning then withdrawPhaseWork s else s
  let s := s.onProg (fun p => { p with state := .faulted, arm := false, delay := none })
  if wasRunning then endPhase .faulted s else s

/-- Faulted with its drain window closing to the softener (spec/04 R92). -/
def faultAndClose (s : State) : State :=
  let w := s.soft.window
  let s := faultProgram s
  if w = .phase then windowClosed s else s

/-- Every record still in the queue ends CANCELLED in queue order, each triggering its checkpoint (R12 step 3, R28). -/
def cancelQueue : List PhaseRecord → State → State
  | [], s => s.onProg (fun p => { p with queue := [] })
  | r :: rest, s => cancelQueue rest (trigger (placeResult (unbegunResult r s) s))

/-- CANCELLING is entered (R12 step 5, R14, spec/03 R71): the cancel drain's job; a window in FLUSH or RESIN_RINSE passes
to it, and a stand-alone tail ends (spec/04 R86). -/
def enterCancelling (s : State) : State :=
  let s := createDrain .cancel true (s.onProg (fun p => { p with state := .cancelling }))
  s.onSoft (fun f =>
    { f with tail := none,
             window := if f.window = .none then .none else .cancel })

/-- CANCEL of a READY, DELAYED, RUNNING or FAULTED program (R12). -/
def cancelProgram (s : State) : State :=
  let s := s.onProg (fun p => { p with arm := false, delay := none })
  let s := if s.prog.state = .running then abandonPhase .cancelled s else s
  let s := cancelQueue s.prog.queue s
  let s :=
    if s.rod.referenced = true ∧ inHomeTrack s = false ∧ s.notes.standing.rodStuck = false ∧ startApproach s = false
    then beginMove .cancel 0 false s else s
  if s.prog.tankWet then enterCancelling s
  else
    let s := s.onProg (fun p => { p with state := .idle })
    if s.soft.window = .phase then windowClosed s else s

/-- SERVICE returns to NORMAL (spec/08 R165): every override is released, a service fill under the inlet override ends
with its settle window, a SERVICE motion is withdrawn. Outside SERVICE nothing changes. -/
def returnToNormal (s : State) : State :=
  if s.sup.mode = .service then
    let inlet := s.sup.overrides.inlet
    let s := s.onSup (fun u => { u with mode := .normal, overrides := Overrides.none })
    let s := if inlet then endServiceFill s else s
    match s.rod.motion with
    | some m => if m.client = .service then withdrawMotion s else s
    | none => s
  else s

end Sys2Proof.Machine
end

