-- ==== Sys2Proof/Machine/DosingEvents.lean ====
section
/-!
DEFINITION. The dosing unit's stroke events (spec/06): stroke pulses (R117, R121, R126) and stroke timeouts (R118, R121).
-/

namespace Sys2Proof.Machine

/-- The stroke switch of a reservoir. -/
def strokeInput : Reservoir → SwitchInput
  | .detergent => .strokeD
  | .rinseAid => .strokeR

/-- A service stroke (R126): a known account is lowered by the calibrated stroke volume, to 0 at the least. -/
def ReservoirState.serviceStroke (vs : Nat) (x : ReservoirState) : ReservoirState :=
  { chargeStroke vs x with serviceStrokes := min 65535 (x.serviceStrokes + 1) }

/-- STROKE_PULSE: it ends the stroke in flight delivered and a run-out of its reservoir, one or both; else it is a service
stroke, or is ignored (R117, R121, R126, log 29). -/
def strokePulse (r : Reservoir) (s : State) : State :=
  let s := setDebounced (strokeInput r) true s
  if strokeInFlight s r then finish (deliverStroke (endRunOut r s))
  else if (s.dosing.get r).runOut.isSome then finish (endRunOut r s)
  else if s.sup.overrides.dose r then onReservoir r (ReservoirState.serviceStroke (s.cal.vs r)) s
  else s

def execStrokePulse (r : Reservoir) (s : State) : Host.Outcome State Fault Refusal := .next (strokePulse r s)

/-- The delivered count of the plan, for a pump fault's record (R118). -/
def deliveredDetail (s : State) : Option Int := s.dose.plan.map (fun p => (p.delivered : Int))

/-- The stroke in flight times out, in the order of R118. -/
def strokeTimedOut (r : Reservoir) (s : State) : State :=
  let s := s.onDosing (fun d => { d with stroke := none })
  let s := allShortfall (setPumpFault r (deliveredDetail s) s)
  if stageOpen s .dosing then reportEnd .finished s else s

/-- STROKE_TIMEOUT, while the pump of the stroke or run-out runs (R118, R121): of the two timers, the one that leads
expires, and the other goes on (log 29). -/
def strokeTimeout (r : Reservoir) (s : State) : State :=
  if pumpFinal s r = false then s
  else if runOutLeads r s then finish (setPumpFault r none (endRunOut r s))
  else if strokeInFlight s r then finish (strokeTimedOut r s)
  else s

def execStrokeTimeout (r : Reservoir) (s : State) : Host.Outcome State Fault Refusal := .next (strokeTimeout r s)

end Sys2Proof.Machine
end

