-- ==== Sys2Proof/Machine/Serve.lean ====
section
/-!
DEFINITION. Taking a request (spec/11 R199 to R201, spec/08 R168): permissions, the service hold, QUIET, the answer.
-/

namespace Sys2Proof.Machine

/-- An owner's answer, before the port controller sends it (R199). -/
structure Reply where
  status : Status
  gap : Bool
  records : Nat
  payload : List Byte
  deriving DecidableEq, Repr

def Reply.ok : Reply := ⟨.ok, false, 0, []⟩

def Reply.clamped : Reply := ⟨.clamped, false, 0, []⟩

/-- OK, or CLAMPED when a value was clamped. -/
def Reply.okOr (clamped : Bool) : Reply := if clamped then Reply.clamped else Reply.ok

def Reply.refused (r : Reason) : Reply := ⟨.refused r, false, 0, []⟩

def Reply.data (bytes : List Byte) : Reply := ⟨.ok, false, 0, bytes⟩

/-- The ports of Table 11-3, for a request that reads or acts. -/
inductive Permission where
  /-- READ requests: every port, and not acting. -/
  | read
  /-- CANCEL, ACK NOTICES, SET NOTICE MASK: every port. -/
  | all
  /-- REMOTE START: the link port. -/
  | linkOnly
  /-- The panel and the service port. -/
  | panelService
  /-- The service port. -/
  | serviceOnly
  deriving DecidableEq, Repr

/-- R200, Table 11-3. -/
def Permission.allows : Permission → Port → Bool
  | .read, _ => true
  | .all, _ => true
  | .linkOnly, p => p == .link
  | .panelService, p => p == .panel || p == .service
  | .serviceOnly, p => p == .service

/-- Acting requests are all but the READ requests (spec/00_scope.md 3.3). -/
def Permission.acting : Permission → Bool
  | .read => false
  | .all | .linkOnly | .panelService | .serviceOnly => true

/-- A port of the port controller. -/
def Ports.get (x : Ports) : Port → PortState
  | .panel => x.panel
  | .link => x.link
  | .service => x.service

def Ports.set (x : Ports) (p : Port) (y : PortState) : Ports :=
  match p with
  | .panel => { x with panel := y }
  | .link => { x with link := y }
  | .service => { x with service := y }

/-- An update of one port. -/
def onPort (p : Port) (f : PortState → PortState) (s : State) : State :=
  s.onPorts (fun x => x.set p (f (x.get p)))

/-- An answer is formed and sent after those before it; it carries and clears LOST (R198). -/
def answer (p : Port) (r : Reply) (s : State) : State :=
  onPort p (fun x =>
    { x with lost := false, answers := x.answers ++ [⟨r.status, x.lost, r.gap, r.records, r.payload⟩] }) s

/-- The wake cause of an acting request (R168). -/
def requestCause : Port → WakeCause
  | .panel => .panel
  | .link => .link
  | .service => .service

/-- A request is taken on a port (R199 checks 3 and 4, R168): DENIED without permission; HELD for an acting request of the
panel or link port under the service hold; in QUIET an acting request wakes the part first, or is refused with MODE
on a link port that is no wake source; then its owner handles it and its answer is sent. -/
def serve (p : Port) (perm : Permission) (owner : State → State × Reply) (s : State) : State :=
  if perm.allows p = false then answer p ⟨.denied, false, 0, []⟩ s
  else if perm.acting = true ∧ s.ports.hold = true ∧ p ≠ .service then answer p ⟨.held, false, 0, []⟩ s
  else if perm.acting = true ∧ s.sup.mode = .quiet ∧ p = .link ∧ s.sup.wake.link = false then
    answer p (Reply.refused .mode) s
  else
    let s := if perm.acting then wakeUp (requestCause p) s else s
    let (s, r) := owner s
    answer p r s

end Sys2Proof.Machine
end

