-- ==== Sys2Proof/Machine/ModeRequests.lean ====
section
/-!
DEFINITION. Requests of the output supervisor and the port controller: ENTER QUIET, SET WAKE SOURCES, TAKE HOLD, RELEASE HOLD,
ENTER SERVICE, LEAVE SERVICE, OVERRIDE OUTPUT (spec/08 R164 to R169, spec/11 R201).
-/

namespace Sys2Proof.Machine

/-- The softener is in BRINE_FILL, FLUSH or RESIN_RINSE (R164, R167). -/
def softBusy (s : State) : Bool :=
  match s.soft.state with
  | .brineFill | .flush | .resinRinse => true
  | .idle | .pending | .dissolve | .waitWindow => false

/-- A run-out of a dosing pump is in progress (R164). -/
def runOutInProgress (s : State) : Bool := s.dosing.detergent.runOut.isSome || s.dosing.rinseAid.runOut.isSome

/-- ENTER QUIET (R167), in NORMAL or SERVICE: a request in QUIET has woken the part. -/
def ownerEnterQuiet (s : State) : State × Reply :=
  if s.sup.mode ≠ .normal then (s, Reply.refused .mode)
  else if programMark s then (s, Reply.refused .state)
  else if s.rod.motion.isSome then (s, Reply.refused .state)
  else if softBusy s then (s, Reply.refused .state)
  else if leakPresent s then (s, Reply.refused .leak)
  else (finish (s.onSup (fun u => { u with mode := .quiet })), Reply.ok)

def serveEnterQuiet (p : Port) (s : State) : State := serve p .panelService ownerEnterQuiet s

def execEnterQuiet (p : Port) (s : State) : Host.Outcome State Fault Refusal := .next (serveEnterQuiet p s)

/-- SET WAKE SOURCES (R169). -/
def ownerSetWakeSources (sources : Byte) (s : State) : State × Reply :=
  (s.onSup (fun u =>
     { u with wake := ⟨sources.getLsbD 0, sources.getLsbD 1, sources.getLsbD 2, sources.getLsbD 3⟩ }), Reply.ok)

def serveSetWakeSources (p : Port) (sources : Byte) (s : State) : State :=
  serve p .panelService (ownerSetWakeSources sources) s

def execSetWakeSources (p : Port) (sources : Byte) (s : State) : Host.Outcome State Fault Refusal :=
  .next (serveSetWakeSources p sources s)

/-- TAKE HOLD (spec/11 R201). -/
def ownerTakeHold (s : State) : State × Reply :=
  if s.mon.servicePresent.state then (s.onPorts (fun x => { x with hold := true }), Reply.ok)
  else (s, Reply.refused .state)

def serveTakeHold (p : Port) (s : State) : State := serve p .serviceOnly ownerTakeHold s

def execTakeHold (p : Port) (s : State) : Host.Outcome State Fault Refusal := .next (serveTakeHold p s)

/-- SERVICE is left for NORMAL (R165), with every output formed anew; in another mode nothing changes. -/
def leaveService (s : State) : State := if s.sup.mode = .service then finish (returnToNormal s) else s

/-- The service hold is released; a release from TAKEN returns SERVICE to NORMAL (spec/11 R201, R165). -/
def releaseHold (s : State) : State :=
  if s.ports.hold then leaveService (s.onPorts (fun x => { x with hold := false })) else s

/-- RELEASE HOLD (spec/11 R201). -/
def ownerReleaseHold (s : State) : State × Reply := (releaseHold s, Reply.ok)

def serveReleaseHold (p : Port) (s : State) : State := serve p .serviceOnly ownerReleaseHold s

def execReleaseHold (p : Port) (s : State) : Host.Outcome State Fault Refusal := .next (serveReleaseHold p s)

/-- ENTER SERVICE (R164). -/
def ownerEnterService (s : State) : State × Reply :=
  if s.sup.mode = .service then (s, Reply.ok)
  else if s.ports.hold = false then (s, Reply.refused .state)
  else if s.prog.state ≠ .idle then (s, Reply.refused .state)
  else if softBusy s then (s, Reply.refused .state)
  else if s.rod.motion.isSome ∨ runOutInProgress s = true then (s, Reply.refused .state)
  else
    ((s.onSup (fun u => { u with mode := .service })).onDosing (fun d =>
       { d with detergent := { d.detergent with serviceStrokes := 0 },
                rinseAid := { d.rinseAid with serviceStrokes := 0 } }), Reply.ok)

def serveEnterService (p : Port) (s : State) : State := serve p .serviceOnly ownerEnterService s

def execEnterService (p : Port) (s : State) : Host.Outcome State Fault Refusal := .next (serveEnterService p s)

/-- LEAVE SERVICE (R165). -/
def ownerLeaveService (s : State) : State × Reply :=
  (leaveService s, Reply.ok)

def serveLeaveService (p : Port) (s : State) : State := serve p .serviceOnly ownerLeaveService s

def execLeaveService (p : Port) (s : State) : Host.Outcome State Fault Refusal := .next (serveLeaveService p s)

/-- The inlet valve's override set or released, with the service fill it begins or ends (R166, spec/02 R48). -/
def overrideInlet (on : Bool) (s : State) : State :=
  let t := s.onSup (fun u => { u with overrides := { u.overrides with inlet := on } })
  if on = s.sup.overrides.inlet then t
  else if on then beginServiceFill t
  else endServiceFill t

/-- The override of an output of R202's numbers 0 to 8 set to a value, the level held to 4 (R166). A circulation level sent
while another is set takes its place (DEDUCED, log 51). -/
def setOverride (output value : Nat) (s : State) : State :=
  let on := decide (value ≠ 0)
  let put (f : Overrides → Overrides) : State := s.onSup (fun u => { u with overrides := f u.overrides })
  match output with
  | 0 => put (fun o => { o with heater := on })
  | 1 => overrideInlet on s
  | 2 => put (fun o => { o with route := on })
  | 3 => put (fun o => { o with brine := on })
  | 4 => put (fun o => { o with circulation := min 4 value })
  | 5 => put (fun o => { o with drain := on })
  | 6 => put (fun o => { o with doseD := on })
  | 7 => put (fun o => { o with doseR := on })
  | 8 => put (fun o => { o with diverter := on })
  | _ => s

/-- OVERRIDE OUTPUT (R166). -/
def ownerOverrideOutput (output value : Byte) (s : State) : State × Reply :=
  if s.sup.mode ≠ .service then (s, Reply.refused .mode)
  else if 9 ≤ output.toNat then (s, Reply.refused .range)
  else
    (finish (setOverride output.toNat value.toNat s),
     Reply.okOr (decide (output.toNat = 4) && decide (4 < value.toNat)))

def serveOverrideOutput (p : Port) (output value : Byte) (s : State) : State :=
  serve p .serviceOnly (ownerOverrideOutput output value) s

def execOverrideOutput (p : Port) (output value : Byte) (s : State) : Host.Outcome State Fault Refusal :=
  .next (serveOverrideOutput p output value s)

end Sys2Proof.Machine
end

