-- ==== Sys2Proof/Machine/Operands.lean ====
section
/-!
DEFINITION. Operands: the phase record of QUEUE PHASE (spec/01 R1 to R3, spec/11 R204) and the calibration items of WRITE
CALIBRATION (spec/09 Table 9-2, spec/11 R202).
-/

namespace Sys2Proof.Machine

/-! ### Phase records (R1 to R3, R204) -/

/-- The kind a kind byte names (Table 11-6). -/
def kindOf (b : Byte) : Option PhaseKind :=
  match b.toNat with
  | 0 => some .pre
  | 1 => some .main
  | 2 => some .inter
  | 3 => some .finalRinse
  | 4 => some .dry
  | _ => none

/-- The zone a spray-zone byte names (Table 11-6). -/
def zonesOf (b : Byte) : Option Zones :=
  match b.toNat with
  | 0 => some .both
  | 1 => some .lower
  | 2 => some .upper
  | 3 => some .alternate
  | _ => none

/-- The value held to lo..hi, and whether that changed it. -/
def clampTo (x lo hi : Nat) : Nat × Bool :=
  if x < lo then (lo, true) else if hi < x then (hi, true) else (x, false)

/-- The flags that lie on the wrong kind (Table 1-1). -/
def wrongFlag (f : PhaseFields) (k : PhaseKind) : Bool :=
  (f.detergent && k != .main) || (f.rinseAid && k != .finalRinse) || (f.soilSample && k != .pre)
    || (f.regenWindow && k != .pre && k != .inter)

/-- A wet record and whether a field was clamped, or none when it is not valid (R2 check 2, R3). -/
def wetRecord (f : PhaseFields) (k : PhaseKind) : Option (PhaseRecord × Bool) :=
  match f.fillVolume, f.holdTime, f.zones.bind zonesOf, f.pumpLevel, f.openSlot, f.airing with
  | some v, some h, some z, some l, none, none =>
    if v.toNat < 1000 ∨ 8000 < v.toNat ∨ l.toNat < 1 ∨ 4 < l.toNat then none
    else
      let heat := f.heatTarget.map (fun t => clampTo t.toNat 60 144)
      let hold := clampTo h.toNat 0 3600
      some
        ({ tag := f.tag, kind := k, fillVolume := some v.toNat, heatTarget := heat.map (·.1), holdTime := hold.1,
           zones := some z, pumpLevel := some l.toNat, detergent := f.detergent, rinseAid := f.rinseAid,
           soilSample := f.soilSample, regenWindow := f.regenWindow, openSlot := none, airing := none },
         hold.2 || (heat.map (·.2)).getD false)
  | _, _, _, _, _, _ => none

/-- A DRY record and whether a field was clamped, or none when it is not valid (R2 check 2, R3). -/
def dryRecord (f : PhaseFields) : Option (PhaseRecord × Bool) :=
  match f.fillVolume, f.heatTarget, f.holdTime, f.zones, f.pumpLevel, f.openSlot, f.airing with
  | none, none, some h, none, none, some o, some a =>
    if o.toNat < 1 ∨ 7 < o.toNat then none
    else
      let hold := clampTo h.toNat 0 3600
      let air := clampTo a.toNat 0 7200
      some
        ({ tag := f.tag, kind := .dry, fillVolume := none, heatTarget := none, holdTime := hold.1, zones := none,
           pumpLevel := none, detergent := false, rinseAid := false, soilSample := false, regenWindow := false,
           openSlot := some o.toNat, airing := some air.1 },
         hold.2 || air.2)
  | _, _, _, _, _, _, _ => none

/-- The stored record of a QUEUE PHASE and whether a field was clamped; none when its contents are not valid. -/
def checkRecord (f : PhaseFields) : Option (PhaseRecord × Bool) :=
  match kindOf f.kind with
  | none => none
  | some k =>
    if wrongFlag f k then none
    else if k.wet then wetRecord f k else dryRecord f

/-! ### Calibration items (R175, R202) -/

/-- The item numbers of the three per-slot items. -/
def perSlot (item : Nat) : Bool := item == 31 || item == 32 || item == 33

/-- The items with named values: leak polarity and inhibit drain policy. -/
def namedItem (item : Nat) : Bool := item == 36 || item == 37

/-- The range of a calibration item (Table 9-2); none for the settings and for numbers that name no item. -/
def calRange (item slot : Nat) : Option (Nat × Nat) :=
  match item with
  | 2 => some (150, 500)
  | 3 => some (0, 10)
  | 4 => some (500000, 8000000)
  | 5 => some (5, 50)
  | 6 => some (150, 600)
  | 7 => some (60, 600)
  | 8 => some (60, 600)
  | 9 => some (300, 1200)
  | 10 => some (10, 50)
  | 11 => some (1000, 10000)
  | 12 => some (0, 200)
  | 13 => some (50, 200)
  | 14 => some (50, 200)
  | 15 => some (50, 200)
  | 16 => some (50, 200)
  | 17 => some (1, 1022)
  | 18 => some (1, 1022)
  | 19 => some (1, 1022)
  | 20 => some (1000, 60000)
  | 21 => some (1000, 60000)
  | 22 => some (100, 2000)
  | 23 => some (100, 12000)
  | 24 => some (100, 12000)
  | 25 => some (100, 1000)
  | 26 => some (100, 1000)
  | 27 => some (20, 200)
  | 28 => some (20, 200)
  | 29 => some (100, 1000)
  | 30 => some (100, 1000)
  | 31 => some (if slot = 0 then (0, 0) else (0, 1500))
  | 32 => some (0, 300)
  | 33 => some (0, 50)
  | 34 => some (5, 60)
  | 35 => some (40, 200)
  | 36 => some (0, 1)
  | 37 => some (0, 1)
  | _ => none

/-- The code of a polarity (R202). -/
def polarityCode : Polarity → Nat
  | .normallyOpen => 0
  | .normallyClosed => 1

/-- The code of a drain policy (R202). -/
def policyCode : DrainPolicy → Nat
  | .run => 0
  | .stop => 1

/-- The live value of a setting or calibration item, 0 for a number that names none. -/
def calValue (c : Settings) (item slot : Nat) : Nat :=
  match item with
  | 0 => c.hardness
  | 1 => c.rinseLevel
  | 2 => c.flowQ
  | 3 => c.hres
  | 4 => c.cfull
  | 5 => c.thr
  | 6 => c.brineVolume
  | 7 => c.dissolveTime
  | 8 => c.flushTime
  | 9 => c.rinseVolume
  | 10 => c.lowSalt
  | 11 => c.bd
  | 12 => c.kh
  | 13 => c.f0
  | 14 => c.f1
  | 15 => c.f2
  | 16 => c.f3
  | 17 => c.t1
  | 18 => c.t2
  | 19 => c.t3
  | 20 => c.dminD
  | 21 => c.dmaxD
  | 22 => c.ur
  | 23 => c.dminR
  | 24 => c.dmaxR
  | 25 => c.vsD
  | 26 => c.vsR
  | 27 => c.lowMarkD
  | 28 => c.lowMarkR
  | 29 => c.nominalD
  | 30 => c.nominalR
  | 31 => ((c.slots[slot]?).map (·.target)).getD 0
  | 32 => ((c.slots[slot]?).map (·.slowLead)).getD 0
  | 33 => ((c.slots[slot]?).map (·.stopLead)).getD 0
  | 34 => c.homeUpper
  | 35 => c.releaseLower
  | 36 => polarityCode c.leakPolarity
  | 37 => policyCode c.drainPolicy
  | _ => 0

/-- One slot of the positions table replaced. -/
def setSlot (c : Settings) (slot : Nat) (f : Slot → Slot) : Settings :=
  if h : slot < 8 then { c with slots := c.slots.set slot (f c.slots[slot]) } else c

/-- The live settings with one item replaced. -/
def calStore (c : Settings) (item slot v : Nat) : Settings :=
  match item with
  | 0 => { c with hardness := v }
  | 1 => { c with rinseLevel := v }
  | 2 => { c with flowQ := v }
  | 3 => { c with hres := v }
  | 4 => { c with cfull := v }
  | 5 => { c with thr := v }
  | 6 => { c with brineVolume := v }
  | 7 => { c with dissolveTime := v }
  | 8 => { c with flushTime := v }
  | 9 => { c with rinseVolume := v }
  | 10 => { c with lowSalt := v }
  | 11 => { c with bd := v }
  | 12 => { c with kh := v }
  | 13 => { c with f0 := v }
  | 14 => { c with f1 := v }
  | 15 => { c with f2 := v }
  | 16 => { c with f3 := v }
  | 17 => { c with t1 := v }
  | 18 => { c with t2 := v }
  | 19 => { c with t3 := v }
  | 20 => { c with dminD := v }
  | 21 => { c with dmaxD := v }
  | 22 => { c with ur := v }
  | 23 => { c with dminR := v }
  | 24 => { c with dmaxR := v }
  | 25 => { c with vsD := v }
  | 26 => { c with vsR := v }
  | 27 => { c with lowMarkD := v }
  | 28 => { c with lowMarkR := v }
  | 29 => { c with nominalD := v }
  | 30 => { c with nominalR := v }
  | 31 => setSlot c slot (fun x => { x with target := v })
  | 32 => setSlot c slot (fun x => { x with slowLead := v })
  | 33 => setSlot c slot (fun x => { x with stopLead := v })
  | 34 => { c with homeUpper := v }
  | 35 => { c with releaseLower := v }
  | 36 => { c with leakPolarity := if v = 0 then .normallyOpen else .normallyClosed }
  | 37 => { c with drainPolicy := if v = 0 then .run else .stop }
  | _ => c

/-- The relation of an item (Table 9-2, R100, R114) holds in these settings. -/
def calRelation (c : Settings) (item : Nat) : Bool :=
  match item with
  | 17 | 18 | 19 => decide (c.t1 < c.t2) && decide (c.t2 < c.t3)
  | 20 | 21 => decide (c.dminD ≤ c.dmaxD)
  | 23 | 24 => decide (c.dminR ≤ c.dmaxR)
  | 27 | 29 => decide (c.lowMarkD < c.nominalD)
  | 28 | 30 => decide (c.lowMarkR < c.nominalR)
  | _ => true

/-- The checks of R175 in order: the value to store and whether it was clamped, or none for RANGE. -/
def calCheck (c : Settings) (item slot v : Nat) : Option (Nat × Bool) :=
  match calRange item slot with
  | none => none
  | some (lo, hi) =>
    if perSlot item ∧ 7 < slot then none
    else if namedItem item ∧ hi < v then none
    else
      let x := clampTo v lo hi
      if calRelation (calStore c item slot x.1) item then some x else none

end Sys2Proof.Machine
end

