-- ==== Sys2Proof/Machine/Store.lean ====
section
/-!
DEFINITION. The record store's commands (spec/09): resets with the load (R182 to R184), the completion of a write (R179),
the power-fail warning (R180), the operating minute (R174).
-/

namespace Sys2Proof.Machine

/-- The regeneration state a reset forms (spec/04 R80). -/
def loadedRegen (img : Image) : RegenState :=
  if img.charged then .waitWindow
  else if img.c < img.settings.cfull * img.settings.thr / 100 then .pending
  else .idle

/-- A reservoir after a reset (spec/06 R129). -/
def ReservoirState.loaded (account : Nat) (known : Bool) : ReservoirState := ⟨account, known, false, none, none, 0⟩

/-- Every input unread against its raw line (spec/08 R154). -/
def Monitor.unreadAll (m : Monitor) : Monitor where
  door := Switch.reset m.door.raw
  home := Switch.reset m.home.raw
  level := Switch.reset m.level.raw
  overfill := Switch.reset m.overfill.raw
  leak := Switch.reset m.leak.raw
  salt := Switch.reset m.salt.raw
  lowD := Switch.reset m.lowD.raw
  lowR := Switch.reset m.lowR.raw
  capD := Switch.reset m.capD.raw
  capR := Switch.reset m.capR.raw
  strokeD := Switch.reset m.strokeD.raw
  strokeR := Switch.reset m.strokeR.raw
  detent := Switch.reset m.detent.raw
  index := Switch.reset m.index.raw
  inhibit := Switch.reset m.inhibit.raw
  powerFail := Switch.reset m.powerFail.raw
  servicePresent := Switch.reset m.servicePresent.raw
  wakeKey := Switch.reset m.wakeKey.raw

/-- The reset state of every block formed from an image (R182, Table 9-3). The waiting commands, the raw and encoder
lines, the stored image and the count of free readings stay. -/
def loadImage (img : Image) (outcome : LoadOutcome) (s : State) : State where
  pending := s.pending
  clock := 0
  samples := s.samples
  prog := Program.reset
  water := Water.reset
  therm := Thermal.reset
  soft := { c := img.c, state := loadedRegen img, charged := img.charged, factor := img.settings.lowSalt,
            retryBlock := false, regenCount := img.regenCount, dissolve := none, flush := none, window := .none,
            tail := none }
  dose := ⟨img.carryD, img.carryR, none⟩
  dosing := ⟨ReservoirState.loaded img.accountD img.knownD, ReservoirState.loaded img.accountR img.knownR, none⟩
  rod := Rod.reset s.rod.encA s.rod.encB
  sup := Supervisor.reset
  mon := s.mon.unreadAll
  cal := img.settings
  store := { stored := s.store.stored, writing := none, again := false, outcome := outcome, minutes := img.minutes,
             minuteTimer := 0, restart := none }
  notes := { panel := NoticeSet.empty panelMask, link := NoticeSet.empty linkMask,
             service := NoticeSet.empty serviceMask, conditions := Conditions.none, log := img.faultLog,
             standing := Standing.none, ring := [], next := img.sequence + 1 }
  ports := Ports.reset

/-- A reset (R182, R183, spec/01 R29): the stored image is loaded when its check matches it, with POWER_RETURN for a
program mark; otherwise the defaults, with the fault and the notice STORE_LOST and a checkpoint. -/
def resetPart (s : State) : State :=
  match s.store.stored with
  | some img =>
    let s := loadImage img .loaded s
    if img.programMark then raiseAll .powerReturn s else s
  | none =>
    trigger (raiseAll .storeLost (logFault .storeLost .recordStore none (loadImage Image.defaults .defaults s)))

/-- POWER_ON (R182). -/
def execPowerOn (s : State) : Host.Outcome State Fault Refusal := .next (resetPart s)

/-- RESET_PIN (R182): it acts as power-on. -/
def execResetPin (s : State) : Host.Outcome State Fault Refusal := .next (resetPart s)

/-- A write completes (R178, R179, R184): the stored image is the one written; AGAIN begins a further write unless the
power-fail warning holds it; a RESTART that waits resets the part once no write is in flight. -/
def completeWrite (s : State) : State :=
  match s.store.writing with
  | none => s
  | some img =>
    let s := s.onStore (fun t => { t with stored := some img, writing := none })
    if s.store.again = true ∧ powerFailing s = false then beginWrite (freshWaiting s) s
    else if s.store.restart.isSome then resetPart s
    else s

def execCheckpointComplete (s : State) : Host.Outcome State Fault Refusal := .next (completeWrite s)

/-- POWER_FAIL_WARNING (R180): a write begins at once; one in flight is abandoned; FRESH_RESIN is ignored (R184). -/
def execPowerFailWarning (s : State) : Host.Outcome State Fault Refusal :=
  .next (beginWrite false (setDebounced .powerFail true s))

/-- OPERATING_MINUTE (R174). -/
def execOperatingMinute (s : State) : Host.Outcome State Fault Refusal :=
  .next (s.onStore (fun t => { t with minutes := min 4294967295 (t.minutes + 1), minuteTimer := 0 }))

end Sys2Proof.Machine
end

