-- ==== Sys2Proof/Machine/SettingRequests.lean ====
section
/-!
DEFINITION. Requests of the softener and the record store: REGENERATE (spec/04 R81), SET HARDNESS, SET RINSE LEVEL (spec/09
R176), WRITE CALIBRATION (R175), STORE NOW (R181), RESTART (R184).
-/

namespace Sys2Proof.Machine

/-- REGENERATE (spec/04 R81). -/
def ownerRegenerate (s : State) : State × Reply :=
  match s.soft.state with
  | .idle => (s.onSoft (fun f => { f with state := .pending }), Reply.ok)
  | .pending => (s.onSoft (fun f => { f with retryBlock := false }), Reply.ok)
  | .brineFill | .dissolve | .waitWindow | .flush | .resinRinse => (s, Reply.refused .state)

def serveRegenerate (p : Port) (s : State) : State := serve p .panelService ownerRegenerate s

def execRegenerate (p : Port) (s : State) : Host.Outcome State Fault Refusal := .next (serveRegenerate p s)

/-- A change of a setting or calibration made on a port (R177): SETTING_CHANGED on the two other ports, then a
checkpoint trigger. -/
def settingChanged (p : Port) (s : State) : State :=
  trigger
    (match p with
     | .panel => raiseOn .service .settingChanged (raiseOn .link .settingChanged s)
     | .link => raiseOn .service .settingChanged (raiseOn .panel .settingChanged s)
     | .service => raiseOn .link .settingChanged (raiseOn .panel .settingChanged s))

/-- SET HARDNESS (R176, R177). -/
def ownerSetHardness (p : Port) (h : Byte) (s : State) : State × Reply :=
  let (v, clamped) := clampTo h.toNat 0 70
  let t := s.onCal (fun c => { c with hardness := v })
  (if v = s.cal.hardness then t else settingChanged p t, Reply.okOr clamped)

def serveSetHardness (p : Port) (h : Byte) (s : State) : State := serve p .panelService (ownerSetHardness p h) s

def execSetHardness (p : Port) (h : Byte) (s : State) : Host.Outcome State Fault Refusal :=
  .next (serveSetHardness p h s)

/-- SET RINSE LEVEL (R176, R177). -/
def ownerSetRinseLevel (p : Port) (l : Byte) (s : State) : State × Reply :=
  let (v, clamped) := clampTo l.toNat 0 6
  let t := s.onCal (fun c => { c with rinseLevel := v })
  (if v = s.cal.rinseLevel then t else settingChanged p t, Reply.okOr clamped)

def serveSetRinseLevel (p : Port) (l : Byte) (s : State) : State :=
  serve p .panelService (ownerSetRinseLevel p l) s

def execSetRinseLevel (p : Port) (l : Byte) (s : State) : Host.Outcome State Fault Refusal :=
  .next (serveSetRinseLevel p l s)

/-! ### WRITE CALIBRATION -/

/-- The account of a reservoir cut to its nominal volume (spec/06 R114). -/
def cutAccount (r : Reservoir) (s : State) : State :=
  onReservoir r (fun x => { x with account := min x.account (s.cal.nominal r * 1000) }) s

/-- The leak response passes from ACTIVE to its after-run (spec/08 R161). -/
def startAfterRun (s : State) : State :=
  s.onSup (fun u => { u with leak := if u.leak = .active then .afterRun 60000 else u.leak })

/-- A change of the leak polarity, the raw line standing as it is (spec/08 R155). -/
def changePolarity (s : State) : State :=
  let present := leakPresent s
  let s := s.onMon (fun m => { m with leak := { m.leak with state := false, timer := 0 } })
  let s :=
    if present then endCondition (fun c => { c with leak := false }) (startAfterRun s)
    else s
  finish (s.onNotes (fun n =>
    { n with panel := n.panel.remove .leak, link := n.link.remove .leak, service := n.service.remove .leak }))

/-- The immediate effect of a changed item (Table 9-2, last column), the new value being live. A held low-salt restore
factor follows its calibration, so that the change acts at the next restore (DEDUCED, log 41). -/
def calEffect (item : Nat) (s : State) : State :=
  match item with
  | 4 => checkThreshold (s.onSoft (fun f => { f with c := min f.c s.cal.cfull }))
  | 5 => checkThreshold s
  | 10 => s.onSoft (fun f => { f with factor := if f.factor = 100 then 100 else s.cal.lowSalt })
  | 25 => s.onDose (fun d => { d with carryD := 0 })
  | 26 => s.onDose (fun d => { d with carryR := 0 })
  | 29 => cutAccount .detergent s
  | 30 => cutAccount .rinseAid s
  | 34 => finish s
  | 36 => changePolarity s
  | 37 => finish s
  | _ => s

/-- WRITE CALIBRATION (R175, R177). -/
def ownerWriteCalibration (p : Port) (item slot : Byte) (value : Word32) (s : State) : State × Reply :=
  match calCheck s.cal item.toNat slot.toNat value.toNat with
  | none => (s, Reply.refused .range)
  | some (v, clamped) =>
    let t := s.onCal (fun c => calStore c item.toNat slot.toNat v)
    (if v = calValue s.cal item.toNat slot.toNat then t else settingChanged p (calEffect item.toNat t),
     Reply.okOr clamped)

def serveWriteCalibration (p : Port) (item slot : Byte) (value : Word32) (s : State) : State :=
  serve p .serviceOnly (ownerWriteCalibration p item slot value) s

def execWriteCalibration (p : Port) (item slot : Byte) (value : Word32) (s : State) :
    Host.Outcome State Fault Refusal :=
  .next (serveWriteCalibration p item slot value s)

/-! ### STORE NOW and RESTART -/

/-- STORE NOW (R181). -/
def ownerStoreNow (s : State) : State × Reply := (trigger s, Reply.ok)

def serveStoreNow (p : Port) (s : State) : State := serve p .panelService ownerStoreNow s

def execStoreNow (p : Port) (s : State) : Host.Outcome State Fault Refusal := .next (serveStoreNow p s)

/-- RESTART is taken (R184): the first one waits, with its mark, and triggers a checkpoint; a second is absorbed. -/
def ownerRestart (mark : Byte) (s : State) : State × Reply :=
  if s.store.restart.isSome then (s, Reply.ok)
  else (trigger (s.onStore (fun t => { t with restart := some (mark.getLsbD 0) })), Reply.ok)

/-- RESTART, with the reset at once when no write is in flight after its trigger (R184). -/
def serveRestart (p : Port) (mark : Byte) (s : State) : State :=
  let t := serve p .serviceOnly (ownerRestart mark) s
  if s.store.restart.isNone && t.store.restart.isSome && t.store.writing.isNone then resetPart t else t

def execRestart (p : Port) (mark : Byte) (s : State) : Host.Outcome State Fault Refusal :=
  .next (serveRestart p mark s)

end Sys2Proof.Machine
end

