-- ==== Sys2Proof/WellFormed.lean ====
section
/-!
DEFINITION. Which commands are well formed: operands that the spec's inputs can carry. Widths are checked by the
operands' types; what is left is checked here.
-/

namespace Sys2Proof

/-- The inputs whose asserted reading always reaches an owner: the level inputs of spec/08 Table 8-1, whose first
asserted reading is delivered too (spec/08 R154), and the cap switches, on whose first open reading the dosing
unit acts (spec/06 R124). -/
def SwitchInput.assertionAlwaysDelivered : SwitchInput → Bool
  | .overfill | .leak | .salt | .lowD | .lowR | .inhibit | .capD | .capR => true
  | .door | .home | .level | .strokeD | .strokeR | .detent | .index | .powerFail | .servicePresent
  | .wakeKey => false

/-- A command is well formed when a silent update does not name a change that its input always delivers (spec/08
R153, R154). Every other command's operands are well formed by their types; a request with a payload out of range
is well formed and is answered as its rule says. -/
def Instr.wellFormed : Instr → Bool
  | .debouncedStateSilentUpdate i v => !(v && i.assertionAlwaysDelivered)
  | _ => true

end Sys2Proof
end

