-- ==== Sys2Proof/Machine/InputEvents.lean ====
section
/-!
DEFINITION. Events of the debounced inputs (spec/08 R153, R154, Table 8-1): raw lines, silent updates, and the delivered
changes of the door, home, level, overfill, leak, salt, low, cap, inhibit, service-present and wake-key inputs. A
delivered change that names the state already read has no effect (log 11).
-/

namespace Sys2Proof.Machine

/-- RAW_SWITCH_CHANGE (R153, R154): the line moves and the candidate timer starts afresh or stops at zero. -/
def rawChange (i : SwitchInput) (v : Bool) (s : State) : State :=
  if (s.mon.get i).raw = v then s else s.onMon (fun m => m.set i { m.get i with raw := v, timer := 0 })

def execRawSwitchChange (i : SwitchInput) (v : Bool) (s : State) : Host.Outcome State Fault Refusal :=
  .next (rawChange i v s)

/-- The inputs of which Table 8-1 delivers only one change: closing, assertion or press. -/
def oneWay : SwitchInput → Bool
  | .strokeD | .strokeR | .detent | .index | .powerFail | .wakeKey => true
  | .door | .home | .level | .overfill | .leak | .salt | .lowD | .lowR | .capD | .capR | .inhibit
  | .servicePresent => false

/-- A change of the debounced state to `v` that is not delivered: a first reading of an edge input, a first reading that
finds a condition absent, or the other change of a one-way input (R153, R154). -/
def silentChange (s : State) (i : SwitchInput) (v : Bool) : Bool :=
  if unread s i then !(v && i.assertionAlwaysDelivered)
  else oneWay i && !v && (s.mon.get i).state

/-- The debounced state of the input already reads `v`. -/
def reads (s : State) (i : SwitchInput) (v : Bool) : Bool := (s.mon.get i).read && (s.mon.get i).state == v

/-- A change that is not delivered: the debounced state takes it, and the blocks that read the door, home and level
switches go by it from then on. -/
def silentUpdate (i : SwitchInput) (v : Bool) (s : State) : State :=
  let s := setDebounced i v s
  match i with
  | .door | .home | .level => finish s
  | .overfill | .leak | .salt | .lowD | .lowR | .capD | .capR | .strokeD | .strokeR | .detent | .index | .inhibit
  | .powerFail | .servicePresent | .wakeKey => s

def execDebouncedStateSilentUpdate (i : SwitchInput) (v : Bool) (s : State) : Host.Outcome State Fault Refusal :=
  .next (if silentChange s i v then silentUpdate i v s else s)

/-- A delivered reading of an input: nothing when the state is already read, the silent update when the change is not one
that is delivered, and otherwise `act` on the state that has taken the reading. -/
def deliver (i : SwitchInput) (v : Bool) (act : State → State) (s : State) : State :=
  if reads s i v then s
  else if silentChange s i v then silentUpdate i v s
  else act (setDebounced i v s)

/-! ### Door, home and level switches -/

/-- What a door change means to the arm and to the DRY stages (spec/01 R9, spec/07 R144, R147). -/
def doorActs (closed : Bool) (s : State) : State :=
  if closed then
    if stageOpen s .airing then reportEnd (.goto .retracting) (s.onRod (fun r => { r with closedEarly := true })) else s
  else
    let s := s.onProg (fun p => { p with arm := false })
    if stageOpen s .dryWait then reportEnd (.goto .airing) s else s

/-- DOOR_SWITCH_CHANGE: it wakes the part first when DOOR is enabled (R169, R170). -/
def doorChange (closed : Bool) (s : State) : State :=
  if reads s .door closed then s
  else if silentChange s .door closed then silentUpdate .door closed s
  else
    let s := if s.sup.wake.door then wakeUp .door s else s
    finish (doorActs closed (setDebounced .door closed s))

def execDoorSwitchChange (closed : Bool) (s : State) : Host.Outcome State Fault Refusal := .next (doorChange closed s)

/-- HOME_SWITCH_CHANGE: a closing ends a reference approach REFERENCED (spec/07 R133). -/
def homeChange (closed : Bool) (s : State) : State :=
  deliver .home closed
    (fun s => finish (if closed = true ∧ approachInProgress s = true then endReferenced s else s)) s

def execHomeSwitchChange (closed : Bool) (s : State) : Host.Outcome State Fault Refusal := .next (homeChange closed s)

/-- The move of a drain job at a change of the level switch (spec/03 R69). -/
def DrainJob.atLevel (water : Bool) (j : DrainJob) : DrainJob :=
  if water then
    (match j.state with
     | .tailing | .dryHeld => { j with state := .pumping, tail := 0 }
     | .pumping => j)
  else
    (match j.state with
     | .pumping => { j with state := .tailing, tail := 0 }
     | .tailing | .dryHeld => j)

/-- LEVEL_SWITCH_CHANGE (spec/03 R61, R62, R69). -/
def levelChange (water : Bool) (s : State) : State :=
  deliver .level water (fun s => finish (onDrain (DrainJob.atLevel water) s)) s

def execLevelSwitchChange (water : Bool) (s : State) : Host.Outcome State Fault Refusal := .next (levelChange water s)

/-! ### Overfill (spec/02 R44, R45, spec/08 R158) -/

/-- The client number in an OVERFILL record, none without a holder (log 26). -/
def holderDetail (s : State) : Option Int :=
  match s.water.holder with
  | some .wash => some 0
  | some .brine => some 1
  | some .rinse => some 2
  | none => none

/-- A current service fill ends OVERFILL (R44, R48). -/
def endServiceOverfill (s : State) : State :=
  s.onWater (fun w =>
    { w with record := w.record.map (fun r =>
        if r.origin = .service ∧ r.ending = none then { r with ending := some .overfill } else r) })

/-- OVERFILL_ONSET: water intake logs, raises and ends the fills; the response starts (R44, R158). -/
def overfillOnset (s : State) : State :=
  deliver .overfill true
    (fun s =>
      let s := logFault .overfill .waterIntake (holderDetail s) s
      let s := beginCondition .overfill (fun c => { c with overfill := true }) s
      let s := endServiceOverfill (endHolderFill .overfill s)
      finish (s.onSup (fun u => { u with overfill := true, overfillOpen := none }))) s

def execOverfillOnset (s : State) : Host.Outcome State Fault Refusal := .next (overfillOnset s)

/-- OVERFILL_SWITCH_OPEN: the condition ends and the open timer starts (R158). -/
def overfillSwitchOpen (s : State) : State :=
  deliver .overfill false
    (fun s =>
      endCondition (fun c => { c with overfill := false })
        (s.onSup (fun u => { u with overfillOpen := if u.overfill then some 0 else none }))) s

def execOverfillSwitchOpen (s : State) : Host.Outcome State Fault Refusal := .next (overfillSwitchOpen s)

/-- OVERFILL_OPEN_EXPIRY: the response ends (R158). -/
def overfillOpenExpiry (s : State) : State :=
  if s.sup.overfillOpen.isSome then finish (s.onSup (fun u => { u with overfill := false, overfillOpen := none })) else s

def execOverfillOpenExpiry (s : State) : Host.Outcome State Fault Refusal := .next (overfillOpenExpiry s)

/-! ### Leak (spec/08 R161, R162) -/

/-- The mode as a LEAK record's detail (log 26). -/
def modeDetail (s : State) : Int :=
  match s.sup.mode with
  | .normal => 0
  | .service => 1
  | .quiet => 2

/-- The program as a leak onset faults it: from READY, DELAYED and RUNNING (spec/01 R16). -/
def leakFaults (s : State) : State :=
  match s.prog.state with
  | .ready | .delayed | .running => faultProgram s
  | .idle | .cancelling | .faulted => s

/-- LEAK_ONSET, in the order of R162. -/
def leakOnset (s : State) : State :=
  if reads s .leak true then s
  else
    let detail := modeDetail s
    let s := setDebounced .leak true (wakeUp .leak s)
    let s := s.onSup (fun u => { u with leak := .active })
    let s := logFault .leak .outputSupervisor (some detail) s
    let s := beginCondition .leak (fun c => { c with leak := true }) s
    finish (abortRegen (leakFaults s))

def execLeakOnset (s : State) : Host.Outcome State Fault Refusal := .next (leakOnset s)

/-- LEAK_END: the response passes to its after-run (R161). -/
def leakEnd (s : State) : State :=
  deliver .leak false
    (fun s => finish (endCondition (fun c => { c with leak := false }) (startAfterRun s))) s

def execLeakEnd (s : State) : Host.Outcome State Fault Refusal := .next (leakEnd s)

/-- AFTER_RUN_EXPIRY (R161). -/
def afterRunExpiry (s : State) : State :=
  match s.sup.leak with
  | .afterRun _ => finish (s.onSup (fun u => { u with leak := .none }))
  | .none | .active => s

def execAfterRunExpiry (s : State) : Host.Outcome State Fault Refusal := .next (afterRunExpiry s)

/-! ### Inhibit line (spec/08 R159) -/

/-- INHIBIT_ASSERTION (R159, spec/01 R26, spec/04 R91). -/
def inhibitAssertion (s : State) : State :=
  deliver .inhibit true
    (fun s =>
      let s := onHolds (fun h => { h with inhibit := true }) s
      finish (abortRegen (beginCondition .inhibit (fun c => { c with inhibit := true }) s))) s

def execInhibitAssertion (s : State) : Host.Outcome State Fault Refusal := .next (inhibitAssertion s)

/-- INHIBIT_RELEASE (R159). -/
def inhibitRelease (s : State) : State :=
  deliver .inhibit false
    (fun s =>
      finish (endCondition (fun c => { c with inhibit := false }) (onHolds (fun h => { h with inhibit := false }) s))) s

def execInhibitRelease (s : State) : Host.Outcome State Fault Refusal := .next (inhibitRelease s)

/-! ### Salt, low and cap switches (spec/04 R95, spec/06 R123 to R125) -/

/-- SALT_SWITCH_CHANGE (spec/04 R95). -/
def saltChange (noSalt : Bool) (s : State) : State :=
  deliver .salt noSalt
    (fun s =>
      if noSalt then beginCondition .saltEmpty (fun c => { c with saltEmpty := true }) s
      else endCondition (fun c => { c with saltEmpty := false }) s) s

def execSaltSwitchChange (noSalt : Bool) (s : State) : Host.Outcome State Fault Refusal := .next (saltChange noSalt s)

/-- The low switch of a reservoir. -/
def lowInput : Reservoir → SwitchInput
  | .detergent => .lowD
  | .rinseAid => .lowR

/-- The cap switch of a reservoir. -/
def capInput : Reservoir → SwitchInput
  | .detergent => .capD
  | .rinseAid => .capR

/-- RES_LOW_D or RES_LOW_R. -/
def resLow : Reservoir → NoticeKind
  | .detergent => .resLowD
  | .rinseAid => .resLowR

/-- The condition flag of a reservoir's low switch. -/
def setResLow (r : Reservoir) (v : Bool) (c : Conditions) : Conditions :=
  match r with
  | .detergent => { c with resLowD := v }
  | .rinseAid => { c with resLowR := v }

/-- The account at a low reading (R123): the low mark, or, at a first reading of a known account, at most the low mark. -/
def ReservoirState.atLow (mark : Nat) (first : Bool) (x : ReservoirState) : ReservoirState :=
  { x with account := if first && x.known then min x.account (mark * 1000) else mark * 1000, known := true }

/-- A refill (R124): the account is the nominal volume, known, and the watch is disarmed. -/
def ReservoirState.refill (nominal : Nat) (x : ReservoirState) : ReservoirState :=
  { x with account := nominal * 1000, known := true, watch := none }

/-- LOW_SWITCH_CHANGE (R123 to R125). -/
def lowChange (r : Reservoir) (low : Bool) (s : State) : State :=
  let first := unread s (lowInput r)
  deliver (lowInput r) low
    (fun s =>
      if low then
        beginCondition (resLow r) (setResLow r true) (onReservoir r (ReservoirState.atLow (s.cal.lowMark r) first) s)
      else
        let s := endCondition (setResLow r false) s
        if (s.dosing.get r).watch.isSome then onReservoir r (ReservoirState.refill (s.cal.nominal r)) s else s) s

def execLowSwitchChange (r : Reservoir) (low : Bool) (s : State) : Host.Outcome State Fault Refusal :=
  .next (lowChange r low s)

/-- A debounced closing of the cap with the low switch reading `low` (R124). -/
def ReservoirState.capClosed (nominal : Nat) (low : Bool) (x : ReservoirState) : ReservoirState :=
  if x.opened = false then x
  else if low then { x with opened := false, watch := some 10000 }
  else { x with opened := false, account := nominal * 1000, known := true }

/-- CAP_SWITCH_CHANGE (R124). -/
def capChange (r : Reservoir) (isOpen : Bool) (s : State) : State :=
  deliver (capInput r) isOpen
    (fun s =>
      if isOpen then onReservoir r (fun x => { x with opened := true, watch := none }) s
      else onReservoir r (ReservoirState.capClosed (s.cal.nominal r) (s.mon.get (lowInput r)).state) s) s

def execCapSwitchChange (r : Reservoir) (isOpen : Bool) (s : State) : Host.Outcome State Fault Refusal :=
  .next (capChange r isOpen s)

/-- REFILL_WATCH_EXPIRY (R124). -/
def execRefillWatchExpiry (r : Reservoir) (s : State) : Host.Outcome State Fault Refusal :=
  .next (onReservoir r (fun x => { x with watch := none }) s)

/-! ### Service present and wake key (spec/08 R165, R169, spec/11 R201) -/

/-- SERVICE_PRESENT_CHANGE: a drop releases the hold and leaves SERVICE. -/
def servicePresentChange (present : Bool) (s : State) : State :=
  deliver .servicePresent present
    (fun s => if present then s else leaveService (s.onPorts (fun x => { x with hold := false }))) s

def execServicePresentChange (present : Bool) (s : State) : Host.Outcome State Fault Refusal :=
  .next (servicePresentChange present s)

/-- WAKE_KEY_PRESS (R169). -/
def execWakeKeyPress (s : State) : Host.Outcome State Fault Refusal :=
  .next (setDebounced .wakeKey true (if s.sup.wake.key then wakeUp .key s else s))

end Sys2Proof.Machine
end

