-- ==== Sys2Proof/Machine/Layout.lean ====
section
/-!
DEFINITION. The encoding convention of spec/11 R203: little-endian numbers, sets, flags, absent items, names numbered in the
order of their tables, page parts.
-/

namespace Sys2Proof.Machine

/-- One byte of a number. -/
def b1 (n : Nat) : List Byte := [BitVec.ofNat 8 n]

/-- Two bytes, little-endian. -/
def b2 (n : Nat) : List Byte := [BitVec.ofNat 8 n, BitVec.ofNat 8 (n / 256)]

/-- Four bytes, little-endian. -/
def b4 (n : Nat) : List Byte := b2 n ++ b2 (n / 65536)

/-- Five and six bytes, little-endian (Table 11-7). -/
def b5 (n : Nat) : List Byte := b4 n ++ b1 (n / 4294967296)

def b6 (n : Nat) : List Byte := b4 n ++ b2 (n / 4294967296)

/-- A signed number in two bytes. -/
def i2 (z : Int) : List Byte := b2 (BitVec.ofInt 16 z).toNat

/-- A signed number in four bytes. -/
def i4 (z : Int) : List Byte := b4 (BitVec.ofInt 32 z).toNat

/-- The number whose bit k is the k-th flag. -/
def bitsNat : List Bool → Nat
  | [] => 0
  | b :: rest => (if b then 1 else 0) + 2 * bitsNat rest

/-- At most eight flags packed in a byte, the first in bit 0. -/
def flags (l : List Bool) : List Byte := b1 (bitsNat l)

/-- A set of 9 to 24 members in three bytes. -/
def set3 (l : List Bool) : List Byte := b2 (bitsNat l) ++ b1 (bitsNat l / 65536)

/-- An item of n bytes, filled with ones when it is absent. -/
def orOnes {α : Type} (n : Nat) (f : α → List Byte) : Option α → List Byte
  | some x => f x
  | none => List.replicate n 0xFF

/-- A running-down timer in whole seconds, rounded up (log 24). -/
def secLeft (ms : Nat) : Nat := (ms + 999) / 1000

/-- A counting timer in whole seconds, rounded down (log 24). -/
def secDone (ms : Nat) : Nat := ms / 1000

/-- Part k of a page: its bytes from 46 × k; RANGE beyond the last part (R203). -/
def pagePart (page : List Byte) (part : Byte) : Reply :=
  if page.length ≤ part.toNat * 46 then Reply.refused .range
  else Reply.data ((page.drop (part.toNat * 46)).take 46)

/-! ### Names (R203) -/

def progCode : ProgState → Nat
  | .idle => 0
  | .ready => 1
  | .delayed => 2
  | .running => 3
  | .cancelling => 4
  | .faulted => 5

def kindCode : PhaseKind → Nat
  | .pre => 0
  | .main => 1
  | .inter => 2
  | .finalRinse => 3
  | .dry => 4

/-- Table 11-5, byte 4. -/
def stageCode : Stage → Nat
  | .filling => 0
  | .dosing => 1
  | .heating => 2
  | .holding => 3
  | .draining => 4
  | .dryWait => 5
  | .opening => 6
  | .airing => 7
  | .retracting => 8

def clientCode : Client → Nat
  | .wash => 0
  | .brine => 1
  | .rinse => 2

def originCode : FillOrigin → Nat
  | .wash => 0
  | .service => 1

def endingCode : FillEnding → Nat
  | .target => 0
  | .overfill => 1
  | .cancelled => 2

def wantedCode : WantedZone → Nat
  | .both => 0
  | .lower => 1
  | .upper => 2

def drainKindCode : DrainKind → Nat
  | .phase => 0
  | .cancel => 1

def drainStateCode : DrainState → Nat
  | .pumping => 0
  | .tailing => 1
  | .dryHeld => 2

/-- Table 4-3. -/
def regenCode : RegenState → Nat
  | .idle => 0
  | .pending => 1
  | .brineFill => 2
  | .dissolve => 3
  | .waitWindow => 4
  | .flush => 5
  | .resinRinse => 6

def windowCode : WindowKind → Nat
  | .none => 0
  | .phase => 1
  | .cancel => 2
  | .standAlone => 3

def reservoirCode : Reservoir → Nat
  | .detergent => 0
  | .rinseAid => 1

def clampCode : Clamp → Nat
  | .none => 0
  | .min => 1
  | .max => 2

/-- R139: FAST, SLOW, SETTLING, RETRY_WAIT, PAUSED. -/
def driveCode (m : Motion) : Nat :=
  if m.paused then 4
  else match m.drive with
    | .fast => 0
    | .slow => 1
    | .settling => 2
    | .retryWait => 3

def motionClientCode : MotionClient → Nat
  | .start => 0
  | .dry => 1
  | .cancel => 2
  | .service => 3

def directionCode : Direction → Nat
  | .outward => 0
  | .inward => 1

def outcomeCode : Outcome → Nat
  | .referenced => 0
  | .failed => 1
  | .inPosition => 2
  | .miss => 3
  | .obstructed => 4
  | .overtravel => 5
  | .stuck => 6
  | .encoder => 7
  | .withdrawn => 8

def modeCode : Mode → Nat
  | .normal => 0
  | .service => 1
  | .quiet => 2

def wakeCode : WakeCause → Nat
  | .door => 0
  | .key => 1
  | .link => 2
  | .delay => 3
  | .leak => 4
  | .panel => 5
  | .service => 6

def leakCode : LeakResponse → Nat
  | .none => 0
  | .active => 1
  | .afterRun _ => 2

def outcomeOfLoadCode : LoadOutcome → Nat
  | .loaded => 0
  | .defaults => 1

/-- Fault codes in the order of spec/10 Table 10-3. -/
def faultCodeNumber : FaultCode → Nat
  | .noWater => 0
  | .overfill => 1
  | .inletLeak => 2
  | .sensorTemp => 3
  | .heatSlow => 4
  | .heater => 5
  | .diverterSlip => 6
  | .diverterStall => 7
  | .drainBlocked => 8
  | .brineStall => 9
  | .soilSensor => 10
  | .pumpD => 11
  | .pumpR => 12
  | .encoder => 13
  | .referenceFail => 14
  | .rodStuck => 15
  | .overtravel => 16
  | .leak => 17
  | .storeLost => 18

/-- Fault sources in the order of spec/10 Table 10-2. -/
def sourceNumber : FaultSource → Nat
  | .programController => 0
  | .waterIntake => 1
  | .thermalUnit => 2
  | .softener => 3
  | .doseComputer => 4
  | .dosingUnit => 5
  | .doorOpener => 6
  | .outputSupervisor => 7
  | .recordStore => 8

def phaseEndingCode : PhaseEnding → Nat
  | .done => 0
  | .cancelled => 1
  | .faulted => 2

/-! ### Sets -/

/-- R22 in the order of Table 11-5, byte 5. -/
def HoldSet.bits (h : HoldSet) : List Bool := [h.request, h.door, h.water, h.inlet, h.regen, h.inhibit]

/-- The standing-fault set in the order of spec/10 R193. -/
def Standing.bits (x : Standing) : List Bool :=
  [x.sensorTemp, x.heater, x.diverterStall, x.encoder, x.referenceFail, x.rodStuck, x.pumpD, x.pumpR, x.soilSensor,
   x.inletLeak]

/-- The six condition flags in the order of Table 10-1. -/
def Conditions.bits (c : Conditions) : List Bool := [c.leak, c.overfill, c.inhibit, c.saltEmpty, c.resLowD, c.resLowR]

def WakeSet.bits (w : WakeSet) : List Bool := [w.door, w.key, w.link, w.delay]

def DrainSources.bits (d : DrainSources) : List Bool := [d.phaseJob, d.cancelJob, d.softener, d.overfill, d.service]

/-- The members of a mask from bit 0 to bit 17. -/
def maskBits (m : KindSet) : List Bool := (List.range 18).map (fun i => m.getLsbD i)

/-- A fault record in the 12 bytes of R203. -/
def faultBytes (r : FaultRecord) : List Byte :=
  b1 (faultCodeNumber r.code) ++ b1 (sourceNumber r.source) ++ flags [r.tag.isSome, r.detail.isSome]
    ++ orOnes 1 (fun t => [t]) r.tag ++ orOnes 4 i4 r.detail ++ b4 r.minute

/-- A fault log: a count byte and the records, oldest first (R203). -/
def logBytes (log : List FaultRecord) : List Byte := b1 log.length ++ log.flatMap faultBytes

end Sys2Proof.Machine
end

