-- ==== Sys2Proof/Machine/NoticeRequests.lean ====
section
/-!
DEFINITION. Requests of the notice and fault unit (spec/10): READ RESULTS (R196, spec/11 R205), READ NOTICES (R190), READ
FAULTS (R192), ACK NOTICES (R188), SET NOTICE MASK (R189), CLEAR FAULTS (R193).
-/

namespace Sys2Proof.Machine

/-! ### READ RESULTS -/

/-- The dose part of a record: of reservoir D, else of R (R205: MAIN carries D, FINAL carries R). -/
def ResultRecord.dose (r : ResultRecord) : Option DosePart :=
  match r.doseD with
  | some d => some d
  | none => r.doseR

/-- The 40-bit fill field of Table 11-7. -/
def fillField (f : FillPart) : Nat := f.v % 16384 + 16384 * (f.vSoft % 16384) + 268435456 * (f.overshoot % 1024)

/-- The 48-bit dose field of Table 11-7. -/
def doseField (d : DosePart) : Nat :=
  d.planned % 1024 + 1024 * (d.delivered % 1024) + 1048576 * (d.shortfall % 1024) + 1073741824 * (d.plan % 65536)

/-- A result record as Table 11-7 lays it out. -/
def resultBytes (r : ResultRecord) : List Byte :=
  b4 r.sequence.toNat ++ [r.tag]
    ++ b1 (kindCode r.kind + 8 * phaseEndingCode r.ending
        + (if r.fill.isSome then 32 else 0) + (if r.dose.isSome then 64 else 0) + (if r.soilClass.isSome then 128 else 0))
    ++ b1 r.peak
    ++ flags [r.flags.heatMissed, r.flags.heatSkipped, r.flags.openingBlocked, r.flags.closedEarly,
        r.flags.positionMiss, r.flags.closedDrying]
    ++ b2 (min 65535 r.duration)
    ++ (match r.fill with | some f => b5 (fillField f) | none => [])
    ++ (match r.dose with | some d => b6 (doseField d) | none => [])
    ++ (match r.soilClass with | some c => b1 c.val | none => [])

/-- The records READ RESULTS returns and GAP (R196): with d the distance from the oldest number held, d below the
number held gives record n and the next one held; d below 2^31 gives none; otherwise the two oldest, with GAP. -/
def selectResults (ring : List ResultRecord) (n : Word32) : List ResultRecord × Bool :=
  match ring with
  | [] => ([], false)
  | oldest :: _ =>
    let d := (n - oldest.sequence).toNat
    if d < ring.length then ((ring.drop d).take 2, false)
    else if d < 2147483648 then ([], false)
    else (ring.take 2, true)

/-- READ RESULTS (R196, R205). -/
def ownerReadResults (n : Word32) (s : State) : State × Reply :=
  let (rs, gap) := selectResults s.notes.ring n
  (s, ⟨.ok, gap, rs.length, b4 s.notes.next.toNat ++ rs.flatMap resultBytes⟩)

def serveReadResults (p : Port) (n : Word32) (s : State) : State := serve p .read (ownerReadResults n) s

def execReadResults (p : Port) (n : Word32) (s : State) : Host.Outcome State Fault Refusal :=
  .next (serveReadResults p n s)

/-! ### READ NOTICES and READ FAULTS -/

/-- READ NOTICES (R190, spec/11 R203): the port's set, counts, mask and line, and the condition table. POWER_RETURN's bit in
the set stands for its one detail "interrupted" (log 53). -/
def ownerReadNotices (p : Port) (s : State) : State × Reply :=
  let n := s.notes.get p
  let counts := n.counts.toList
  (s, Reply.data
    (set3 (counts.map (fun c => c != 0)) ++ (counts.filter (fun c => c != 0)).map (fun c => BitVec.ofNat 8 c)
      ++ set3 (maskBits n.mask) ++ flags (attention s p :: s.notes.conditions.bits)))

def serveReadNotices (p : Port) (s : State) : State := serve p .read (ownerReadNotices p) s

def execReadNotices (p : Port) (s : State) : Host.Outcome State Fault Refusal := .next (serveReadNotices p s)

/-- READ FAULTS (R192, spec/11 R203): the log, oldest first, and the standing-fault set. -/
def ownerReadFaults (s : State) : State × Reply :=
  (s, Reply.data (logBytes s.notes.log ++ b2 (bitsNat s.notes.standing.bits)))

def serveReadFaults (p : Port) (s : State) : State := serve p .read ownerReadFaults s

def execReadFaults (p : Port) (s : State) : Host.Outcome State Fault Refusal := .next (serveReadFaults p s)

/-! ### ACK NOTICES and SET NOTICE MASK -/

/-- The kind is a level kind whose condition is present (R187): an acknowledgement keeps it. -/
def keptByAck (c : Conditions) (i : Fin 18) : Bool :=
  match i.val with
  | 12 => c.leak
  | 13 => c.overfill
  | 14 => c.inhibit
  | 15 => c.saltEmpty
  | 16 => c.resLowD
  | 17 => c.resLowR
  | _ => false

/-- A set after its acknowledgement (R188). -/
def NoticeSet.ack (n : NoticeSet) (c : Conditions) : NoticeSet :=
  { n with counts := Vector.ofFn (fun i => if keptByAck c i then n.counts[i] else 0) }

/-- The counts an acknowledgement removes, 0 where nothing is removed (R188). -/
def NoticeSet.removed (n : NoticeSet) (c : Conditions) : List Nat :=
  (List.finRange 18).map (fun i => if keptByAck c i then 0 else n.counts[i])

/-- ACK NOTICES (R188, spec/11 Table 11-4). -/
def ownerAckNotices (p : Port) (s : State) : State × Reply :=
  let gone := (s.notes.get p).removed s.notes.conditions
  (s.onNotes (fun n => n.set p ((n.get p).ack n.conditions)),
   Reply.data (set3 (gone.map (fun c => c != 0)) ++ (gone.filter (fun c => c != 0)).map (fun c => BitVec.ofNat 8 c)))

def serveAckNotices (p : Port) (s : State) : State := serve p .all (ownerAckNotices p) s

def execAckNotices (p : Port) (s : State) : Host.Outcome State Fault Refusal := .next (serveAckNotices p s)

/-- SET NOTICE MASK (R189); bits 18 to 23 are ignored (spec/11 R202). -/
def ownerSetNoticeMask (p : Port) (kinds : BitVec 24) (s : State) : State × Reply :=
  (s.onNotes (fun n => n.set p { n.get p with mask := kinds.setWidth 18 }), Reply.ok)

def serveSetNoticeMask (p : Port) (kinds : BitVec 24) (s : State) : State :=
  serve p .all (ownerSetNoticeMask p kinds) s

def execSetNoticeMask (p : Port) (kinds : BitVec 24) (s : State) : Host.Outcome State Fault Refusal :=
  .next (serveSetNoticeMask p kinds s)

/-! ### CLEAR FAULTS -/

/-- A raw reading out of range (spec/03 R52), in half degrees. -/
def rawOutOfRange (s : State) : Bool :=
  match s.therm.raw with
  | some r => decide (r < 4) || decide (196 < r)
  | none => false

/-- CLEAR FAULTS (R193): the set is emptied and its codes answered; the out-of-range timer starts again for a removed
SENSOR_TEMP (spec/03 R53). -/
def ownerClearFaults (s : State) : State × Reply :=
  let gone := s.notes.standing
  let t := onStanding (fun _ => Standing.none) s
  let t := if gone.sensorTemp && rawOutOfRange s then t.onTherm (fun x => { x with outTimer := some 0 }) else t
  (finish t, Reply.data (b2 (bitsNat gone.bits)))

def serveClearFaults (p : Port) (s : State) : State := serve p .serviceOnly ownerClearFaults s

def execClearFaults (p : Port) (s : State) : Host.Outcome State Fault Refusal := .next (serveClearFaults p s)

end Sys2Proof.Machine
end

