-- ==== Sys2Proof/Machine/ProgramRequests.lean ====
section
/-!
DEFINITION. The program controller's requests (spec/01 R2 to R12): QUEUE PHASE, START, ARM REMOTE, DISARM REMOTE, REMOTE
START, PAUSE, RESUME, CANCEL. `ownerX` is the owner's handling, `serveX` the request taken on a port.
-/

namespace Sys2Proof.Machine

/-- The tail of the queue is a DRY record (R2 check 4). -/
def dryTail (s : State) : Bool :=
  match s.prog.queue.getLast? with
  | some r => r.kind == .dry
  | none => false

/-- QUEUE PHASE (R2 to R4). -/
def ownerQueuePhase (f : PhaseFields) (s : State) : State × Reply :=
  if s.prog.state = .cancelling ∨ s.prog.state = .faulted then (s, Reply.refused .state)
  else match checkRecord f with
    | none => (s, Reply.refused .badPhase)
    | some (r, clamped) =>
      if 8 ≤ s.prog.queue.length then (s, Reply.refused .full)
      else if dryTail s then (s, Reply.refused .badOrder)
      else
        (s.onProg (fun p =>
           { p with queue := p.queue ++ [r], state := if p.state = .idle then .ready else p.state }),
         ⟨if clamped then .clamped else .ok, false, 0, [BitVec.ofNat 8 (s.prog.queue.length + 1)]⟩)

def serveQueuePhase (p : Port) (f : PhaseFields) (s : State) : State :=
  serve p .panelService (ownerQueuePhase f) s

def execQueuePhase (p : Port) (f : PhaseFields) (s : State) : Host.Outcome State Fault Refusal :=
  .next (serveQueuePhase p f s)

/-- INLET_LEAK or ROD_STUCK stands (R7, R10). -/
def startFault (s : State) : Bool := s.notes.standing.inletLeak || s.notes.standing.rodStuck

/-- The delay of a START in minutes, and whether it was clamped (R7). -/
def startMinutes (delay : Half) : Nat × Bool := clampTo delay.toNat 0 1440

/-- START (R7). -/
def ownerStart (delay : Half) (s : State) : State × Reply :=
  if s.prog.state ≠ .ready then (s, Reply.refused .state)
  else if s.sup.mode ≠ .normal then (s, Reply.refused .mode)
  else if doorClosed s = false then (s, Reply.refused .door)
  else if leakPresent s then (s, Reply.refused .leak)
  else if startFault s then (s, Reply.refused .fault)
  else
    let (d, clamped) := startMinutes delay
    let s := startCommon s
    let s :=
      if d = 0 then enterRunning s
      else s.onProg (fun p => { p with state := .delayed, delay := some (d * 60000) })
    (finish s, Reply.okOr clamped)

def serveStart (p : Port) (delay : Half) (s : State) : State := serve p .panelService (ownerStart delay) s

def execStart (p : Port) (delay : Half) (s : State) : Host.Outcome State Fault Refusal :=
  .next (serveStart p delay s)

/-- ARM REMOTE (R9). -/
def ownerArmRemote (s : State) : State × Reply :=
  if s.prog.state ≠ .ready ∧ s.prog.state ≠ .delayed then (s, Reply.refused .state)
  else if doorClosed s = false then (s, Reply.refused .door)
  else (s.onProg (fun p => { p with arm := true }), Reply.ok)

def serveArmRemote (p : Port) (s : State) : State := serve p .panelService ownerArmRemote s

def execArmRemote (p : Port) (s : State) : Host.Outcome State Fault Refusal := .next (serveArmRemote p s)

/-- DISARM REMOTE (R9). -/
def ownerDisarmRemote (s : State) : State × Reply := (s.onProg (fun p => { p with arm := false }), Reply.ok)

def serveDisarmRemote (p : Port) (s : State) : State := serve p .panelService ownerDisarmRemote s

def execDisarmRemote (p : Port) (s : State) : Host.Outcome State Fault Refusal := .next (serveDisarmRemote p s)

/-- REMOTE START (R10). -/
def ownerRemoteStart (s : State) : State × Reply :=
  if s.prog.state ≠ .ready ∧ s.prog.state ≠ .delayed then (s, Reply.refused .state)
  else if s.prog.arm = false then (s, Reply.refused .notArmed)
  else if s.sup.mode ≠ .normal then (s, Reply.refused .mode)
  else if leakPresent s then (s, Reply.refused .leak)
  else if startFault s then (s, Reply.refused .fault)
  else (finish (enterRunning (startCommon s)), Reply.ok)

def serveRemoteStart (p : Port) (s : State) : State := serve p .linkOnly ownerRemoteStart s

def execRemoteStart (p : Port) (s : State) : Host.Outcome State Fault Refusal := .next (serveRemoteStart p s)

/-- PAUSE (R11). -/
def ownerPause (s : State) : State × Reply :=
  if s.prog.state ≠ .running then (s, Reply.refused .state)
  else (finish (onHolds (fun h => { h with request := true }) s), Reply.ok)

def servePause (p : Port) (s : State) : State := serve p .panelService ownerPause s

def execPause (p : Port) (s : State) : Host.Outcome State Fault Refusal := .next (servePause p s)

/-- WATER is removed, the retry timer stopped and the stalled fill retried (R25). -/
def retryNow (s : State) : State :=
  retryWash (s.onProg (fun p => { p with retry := none, holds := { p.holds with water := false } }))

/-- RESUME (R11, R25). -/
def ownerResume (s : State) : State × Reply :=
  if s.prog.state ≠ .running then (s, Reply.refused .state)
  else
    let s := onHolds (fun h => { h with request := false }) s
    (finish (if s.prog.holds.water then retryNow s else s), Reply.ok)

def serveResume (p : Port) (s : State) : State := serve p .panelService ownerResume s

def execResume (p : Port) (s : State) : Host.Outcome State Fault Refusal := .next (serveResume p s)

/-- CANCEL (R12). -/
def ownerCancel (s : State) : State × Reply :=
  if s.prog.state = .idle ∨ s.prog.state = .cancelling then (s, Reply.ok)
  else (finish (cancelProgram s), Reply.ok)

def serveCancel (p : Port) (s : State) : State := serve p .all ownerCancel s

def execCancel (p : Port) (s : State) : Host.Outcome State Fault Refusal := .next (serveCancel p s)

end Sys2Proof.Machine
end

