-- ==== Sys2Proof/Machine/Readout.lean ====
section
/-!
DEFINITION. The readout pages of READ STATUS, READ RECORD and READ POSITION (spec/11 R203, Table 11-5), their items in the
order of R30, R50, R74, R96, R112, R128, R151, R171, R174 and R181. Byte-level choices are in log 25.
-/

namespace Sys2Proof.Machine

/-! ### READ STATUS -/

/-- The remaining delay in whole minutes, rounded up (spec/01 R8). -/
def delayMinutes (ms : Nat) : Nat := (ms + 59999) / 60000

/-- The remaining delay while DELAYED. -/
def remainingDelay (s : State) : Option Nat :=
  if s.prog.state = .delayed then s.prog.delay.map delayMinutes else none

/-- Page 0 (Table 11-5). With no phase running the kind's bits of byte 3 are 0 beside bit 7 (log 25). -/
def statusSummary (s : State) : List Byte :=
  let ph := runningPhase s
  b1 (progCode s.prog.state) ++ b1 s.prog.queue.length
    ++ orOnes 1 (fun x => [x.1.tag]) ph
    ++ b1 (match ph with | some (r, _) => kindCode r.kind | none => 128)
    ++ orOnes 1 (fun x => b1 (stageCode x.2.stage)) ph
    ++ flags s.prog.holds.bits
    ++ b1 (bitsNat [s.prog.arm, s.prog.tankWet] + 4 * s.prog.soilClass.val)
    ++ b2 ((remainingDelay s).getD 0)
    ++ b1 (modeCode s.sup.mode + (if s.ports.hold then 4 else 0) + 8 * leakCode s.sup.leak
        + (if inhibited s then 32 else 0) + (if s.sup.overfill then 64 else 0))
    ++ orOnes 1 b1 s.therm.working
    ++ b1 (regenCode s.soft.state)
    ++ b4 s.soft.c
    ++ b2 (bitsNat s.notes.standing.bits)
    ++ flags [doorClosed s, rodHome s, s.rod.referenced, s.rod.motion.isSome]
    ++ i2 s.rod.count

/-- Page 1: R30. -/
def statusProgram (s : State) : List Byte :=
  let ph := runningPhase s
  b1 (progCode s.prog.state) ++ b1 s.prog.queue.length
    ++ orOnes 1 (fun x => [x.1.tag]) ph ++ orOnes 1 (fun x => b1 (kindCode x.1.kind)) ph
    ++ orOnes 1 (fun x => b1 (stageCode x.2.stage)) ph
    ++ flags s.prog.holds.bits ++ flags [s.prog.arm] ++ orOnes 2 b2 (remainingDelay s)
    ++ flags [s.prog.tankWet] ++ b1 s.prog.soilClass.val

/-- The fields of Table 2-2. The field final (yes / no) is a flag with 1 = yes (log 25). -/
def fillRecordBytes (r : Option FillRecord) : List Byte :=
  orOnes 1 (fun x : FillRecord => b1 (originCode x.origin)) r
    ++ orOnes 2 b2 (r.bind (·.target)) ++ orOnes 2 (fun x => b2 x.q) r ++ orOnes 2 (fun x => b2 x.p) r
    ++ orOnes 4 (fun x => b4 x.v) r ++ orOnes 4 (fun x => b4 x.vSoft) r ++ orOnes 4 (fun x => b4 x.vHard) r
    ++ orOnes 2 b2 (r.bind (fun x => x.target.map (fun _ => x.overshoot)))
    ++ orOnes 1 (fun e => b1 (endingCode e)) (r.bind (·.ending))
    ++ orOnes 1 (fun x => flags [x.isFinal]) r

/-- The counter of a softener holder (R50). -/
def holderCounter (s : State) : Option SoftCounter :=
  match s.water.holder with
  | some .brine | some .rinse => s.water.softCounter
  | some .wash | none => none

/-- Page 2: R50. The two final states are packed as flags (log 25). -/
def statusWater (s : State) : List Byte :=
  orOnes 1 (fun c => b1 (clientCode c)) s.water.holder
    ++ flags [s.water.waitWash, s.water.waitSoft == some .brine, s.water.waitSoft == some .rinse]
    ++ flags [s.water.window.isSome, inletFinal s, routeFinal s]
    ++ fillRecordBytes s.water.record
    ++ orOnes 2 (fun c => b2 c.target) (holderCounter s) ++ orOnes 2 (fun c => b2 c.p) (holderCounter s)
    ++ orOnes 2 (fun c => b2 c.v) (holderCounter s)
    ++ b2 s.water.unattributed

/-- The raw reading is out of range (spec/03 R52). -/
def rawMark (s : State) : Bool :=
  match s.therm.raw with
  | some r => decide (r < 4) || decide (196 < r)
  | none => false

/-- The fields of a drain job (R74). -/
def drainBytes (s : State) : List Byte :=
  orOnes 5
    (fun j : DrainJob =>
      b1 (drainKindCode j.kind) ++ b1 (drainStateCode j.state) ++ b1 (secDone j.tail) ++ b1 (secDone j.timeout)
        ++ flags [j.window, extension s])
    s.therm.drain

/-- Page 3: R74. The heater's and the drain pump's final states are flags (log 25). A hold timer that is stopped (Table 3-5)
is shown absent, in ones, and so is an ALTERNATE timer or a rise-check window that there is none of (DEDUCED, log 25). -/
def statusThermal (s : State) : List Byte :=
  orOnes 1 b1 s.therm.raw ++ flags [rawMark s] ++ orOnes 1 b1 s.therm.working ++ flags [s.therm.latch]
    ++ orOnes 1 (fun on => b1 (if on then 0 else 1)) s.therm.regulator ++ flags [heaterFinal s]
    ++ orOnes 2 (fun w => b2 (secDone w.elapsed)) s.therm.rise ++ orOnes 1 (fun w => b1 w.reference) s.therm.rise
    ++ b1 (min 255 s.therm.slowCount)
    ++ orOnes 2 (fun t => b2 (secLeft t)) s.therm.hold
    ++ b1 (circDemand s) ++ b1 (circFinal s)
    ++ orOnes 1 (fun p : Fin 4 => b1 p.val) s.therm.position ++ orOnes 1 (fun z => b1 (wantedCode z)) s.therm.wanted
    ++ orOnes 1 (fun t => b1 (secLeft t)) s.therm.alternate
    ++ drainBytes s
    ++ flags (drainSources s).bits ++ flags [drainFinal s]

/-- The remaining time of the dissolve or flush timer. -/
def softTimer (s : State) : Option Nat :=
  match s.soft.dissolve with
  | some t => some t
  | none => s.soft.flush

/-- Page 4: R96. A dissolve or flush timer that is stopped (Table 4-5) is shown absent, in ones, and so is a tail that does not
run (DEDUCED, log 25). The restore factor stays shown after the restore that used it (DESIGN CHOICE, log 55). -/
def statusSoftener (s : State) : List Byte :=
  b4 s.soft.c ++ b4 s.cal.cfull ++ b4 (thresholdT s) ++ b1 (hardnessD s) ++ flags [exhausted s]
    ++ b1 (regenCode s.soft.state) ++ orOnes 2 (fun t => b2 (secLeft t)) (softTimer s)
    ++ flags [s.soft.charged] ++ b1 s.soft.factor ++ flags [s.soft.retryBlock] ++ b1 (windowCode s.soft.window)
    ++ orOnes 1 (fun t => b1 (secLeft t)) s.soft.tail ++ b2 s.soft.regenCount

/-- The fields of Table 5-3 and the working values of a detergent plan (R112). The field dosed (yes / no) is a flag with 1 = yes
(log 25). -/
def planBytes (p : Option DosePlan) : List Byte :=
  let a := p.bind (·.amounts)
  let w := p.bind (·.working)
  orOnes 1 (fun x : DosePlan => b1 (reservoirCode x.reservoir)) p
    ++ orOnes 1 (fun x => flags [x.amounts.isSome]) p
    ++ orOnes 2 (fun x => b2 x.plan) a ++ orOnes 1 (fun x => b1 (clampCode x.clamp)) a
    ++ orOnes 1 (fun c : Fin 4 => b1 c.val) (p.bind (·.soilClass))
    ++ orOnes 2 (fun x => b2 x.stroke) p
    ++ orOnes 2 (fun x => b2 x.carryIn) a ++ orOnes 2 (fun x => b2 x.carryOut) a
    ++ orOnes 2 (fun x => b2 x.planned) p ++ orOnes 2 (fun x => b2 x.delivered) p
    ++ orOnes 2 (fun x => b2 x.shortfall) p ++ orOnes 2 (fun x => b2 x.withdrawn) p
    ++ orOnes 4 (fun x => b4 x.w) w ++ orOnes 4 (fun x => b4 x.base) w ++ orOnes 4 (fun x => b4 x.scaled) w

/-- Page 5: R112. -/
def statusDose (s : State) : List Byte := b2 s.dose.carryD ++ b2 s.dose.carryR ++ planBytes s.dose.plan

/-- The stroke timer shown for a reservoir: of its stroke in flight, else of its run-out (log 29). -/
def strokeTimer (s : State) (r : Reservoir) : Option Nat :=
  if strokeInFlight s r then s.dosing.stroke else (s.dosing.get r).runOut

/-- One reservoir's items of R128; a cap that reads open is 1, and what runs on the pump is three flags, of a stroke, a run-out
and a service override, packed with the pump fault's (DEDUCED, log 25). -/
def reservoirBytes (s : State) (r : Reservoir) (low cap : Switch) : List Byte :=
  let x := s.dosing.get r
  b4 x.account ++ flags [x.known, low.state, cap.state, x.opened] ++ orOnes 1 (fun t => b1 (secLeft t)) x.watch
    ++ flags [pumpFault s r, strokeInFlight s r, x.runOut.isSome, s.sup.overrides.dose r]
    ++ orOnes 1 (fun t => b1 (secDone t)) (strokeTimer s r)
    ++ b2 x.serviceStrokes

/-- Page 6: R128, all of the detergent reservoir's items before the rinse-aid reservoir's (log 25). -/
def statusDosing (s : State) : List Byte :=
  reservoirBytes s .detergent s.mon.lowD s.mon.capD ++ reservoirBytes s .rinseAid s.mon.lowR s.mon.capR

/-- Page 7: the four items R151 names for READ STATUS. -/
def statusRod (s : State) : List Byte :=
  i2 s.rod.count ++ flags [s.rod.referenced, rodHome s] ++ orOnes 1 (fun m => b1 (driveCode m)) s.rod.motion

/-- The inputs in the order of Table 8-1. -/
def allInputs : List SwitchInput :=
  [.door, .home, .level, .overfill, .leak, .salt, .lowD, .lowR, .capD, .capR, .strokeD, .strokeR, .detent, .index,
   .inhibit, .powerFail, .servicePresent, .wakeKey]

/-- The forced conditions common to the outputs: leak response, inhibit, QUIET (Table 8-3). -/
def forcedBits (s : State) : List Bool := [leakActive s, inhibited s, s.sup.mode == .quiet]

/-- One output's entry (R171): final state, demand, override, forced conditions, failing interlock conditions. The final state
and the demand take a byte each, on as 1, which R203 leaves open (log 25). -/
def outputBytes (final demand : Nat) (override : Option Nat) (forced interlock : List Bool) : List Byte :=
  b1 final ++ b1 demand ++ orOnes 1 b1 override ++ flags forced ++ flags interlock

/-- An on-or-off override, absent when it is not set. -/
def onOverride (b : Bool) : Option Nat := if b then some 1 else none

/-- The door-opener motor's lines: bit 0 outward, bit 1 inward, bit 2 fast. -/
def motorCode : Option (Direction × Bool) → Nat
  | some (.outward, fast) => 1 + (if fast then 4 else 0)
  | some (.inward, fast) => 2 + (if fast then 4 else 0)
  | none => 0

/-- The ten outputs in the order of Table 8-3, the failing interlock conditions whether or not the output is asked for (log
25). The softener's FLUSH is asked for the brine valve's job demand alone, so it does not fail under the override. -/
def outputsBytes (s : State) : List Byte :=
  let o := s.sup.overrides
  let f := forcedBits s
  outputBytes (heaterFinal s).toNat (heaterDemand s).toNat (onOverride o.heater) (f ++ [s.therm.latch])
      [!levelWater s, decide (circFinal s = 0), !doorClosed s, !rodHome s, s.therm.latch, leakPresent s, inhibited s]
    ++ outputBytes (inletFinal s).toNat (inletDemand s).toNat (onOverride o.inlet) (f ++ [s.sup.overfill]) []
    ++ outputBytes (routeFinal s).toNat (routeDemand s).toNat (onOverride o.route) f []
    ++ outputBytes (brineFinal s).toNat (brineDemand s).toNat (onOverride o.brine) f
        [!drainFinal s, s.soft.state != .flush && !o.brine]
    ++ outputBytes (circFinal s) (circDemand s) (if o.circulation = 0 then none else some o.circulation) f
        [!doorClosed s, !rodHome s, !levelWater s]
    ++ outputBytes (drainFinal s).toNat (bitsNat (drainSources s).bits) (onOverride o.drain)
        [!leakActive s && inhibited s && s.cal.drainPolicy == .stop, !leakActive s && s.sup.mode == .quiet] []
    ++ outputBytes (pumpFinal s .detergent).toNat (pumpDemand s .detergent).toNat (onOverride o.doseD) f []
    ++ outputBytes (pumpFinal s .rinseAid).toNat (pumpDemand s .rinseAid).toNat (onOverride o.doseR) f []
    ++ outputBytes (diverterFinal s).toNat (diverterDemand s).toNat (onOverride o.diverter) f []
    ++ outputBytes (motorCode (motorFinal s)) (motorCode (motorDemand s)) none f []

/-- The remaining after-run time (R161). -/
def afterRunLeft (s : State) : Option Nat :=
  match s.sup.leak with
  | .afterRun t => some t
  | .none | .active => none

/-- Page 8: R171; an input's bit is 1 for door and home closed, level water, cap open, and for the others asserted (log 25). The
overfill response's open time and the after-run are shown absent, in ones, while they do not run (DEDUCED, log 25). -/
def statusSupervision (s : State) : List Byte :=
  set3 (allInputs.map (fun i => (s.mon.get i).state)) ++ set3 (allInputs.map (fun i => !(s.mon.get i).read))
    ++ b1 (polarityCode s.cal.leakPolarity) ++ b1 (policyCode s.cal.drainPolicy)
    ++ b1 (modeCode s.sup.mode) ++ flags s.sup.wake.bits ++ orOnes 1 (fun c => b1 (wakeCode c)) s.sup.lastWake
    ++ flags [inhibited s]
    ++ b1 (leakCode s.sup.leak) ++ orOnes 1 (fun t => b1 (secLeft t)) (afterRunLeft s)
    ++ flags [s.sup.overfill] ++ orOnes 1 (fun t => b1 (secLeft (5000 - t))) s.sup.overfillOpen
    ++ outputsBytes s

/-- Page 9: the operating minute count and the condition table. -/
def statusMinutes (s : State) : List Byte := b4 s.store.minutes ++ flags s.notes.conditions.bits

/-- A page of READ STATUS, none beyond the last. -/
def statusPage (s : State) (page : Byte) : Option (List Byte) :=
  match page.toNat with
  | 0 => some (statusSummary s)
  | 1 => some (statusProgram s)
  | 2 => some (statusWater s)
  | 3 => some (statusThermal s)
  | 4 => some (statusSoftener s)
  | 5 => some (statusDose s)
  | 6 => some (statusDosing s)
  | 7 => some (statusRod s)
  | 8 => some (statusSupervision s)
  | 9 => some (statusMinutes s)
  | _ => none

/-- A part of a page, or RANGE (R203). -/
def answerPage (page : Option (List Byte)) (part : Byte) : Reply :=
  match page with
  | some bytes => pagePart bytes part
  | none => Reply.refused .range

/-- READ STATUS (R203). -/
def ownerReadStatus (page part : Byte) (s : State) : State × Reply := (s, answerPage (statusPage s page) part)

def serveReadStatus (p : Port) (page part : Byte) (s : State) : State := serve p .read (ownerReadStatus page part) s

def execReadStatus (p : Port) (page part : Byte) (s : State) : Host.Outcome State Fault Refusal :=
  .next (serveReadStatus p page part s)

/-! ### READ RECORD -/

/-- Page 0: the items of Table 9-1 other than the settings, calibrations and fault log, and the store state (R181). The items
given per reservoir stand grouped by reservoir (log 25); the program mark is the one of the program state (log 56). -/
def recordItems (s : State) : List Byte :=
  b4 s.soft.c ++ flags [s.soft.charged] ++ b2 s.soft.regenCount
    ++ b4 s.dosing.detergent.account ++ flags [s.dosing.detergent.known]
    ++ b4 s.dosing.rinseAid.account ++ flags [s.dosing.rinseAid.known]
    ++ b2 s.dose.carryD ++ b2 s.dose.carryR ++ flags [programMark s]
    ++ b4 (s.notes.next - 1).toNat ++ b4 s.store.minutes
    ++ flags [s.store.writing.isSome, s.store.again] ++ b1 (outcomeOfLoadCode s.store.outcome)

/-- Page 1: the settings and calibrations in item order (R202, R203), each in the bytes its range needs. -/
def recordSettings (c : Settings) : List Byte :=
  b1 c.hardness ++ b1 c.rinseLevel ++ b2 c.flowQ ++ b1 c.hres ++ b4 c.cfull ++ b1 c.thr ++ b2 c.brineVolume
    ++ b2 c.dissolveTime ++ b2 c.flushTime ++ b2 c.rinseVolume ++ b1 c.lowSalt ++ b2 c.bd ++ b1 c.kh
    ++ b1 c.f0 ++ b1 c.f1 ++ b1 c.f2 ++ b1 c.f3 ++ b2 c.t1 ++ b2 c.t2 ++ b2 c.t3
    ++ b2 c.dminD ++ b2 c.dmaxD ++ b2 c.ur ++ b2 c.dminR ++ b2 c.dmaxR ++ b2 c.vsD ++ b2 c.vsR
    ++ b1 c.lowMarkD ++ b1 c.lowMarkR ++ b2 c.nominalD ++ b2 c.nominalR
    ++ c.slots.toList.flatMap (fun x => b2 x.target) ++ c.slots.toList.flatMap (fun x => b2 x.slowLead)
    ++ c.slots.toList.flatMap (fun x => b1 x.stopLead)
    ++ b1 c.homeUpper ++ b1 c.releaseLower ++ b1 (polarityCode c.leakPolarity) ++ b1 (policyCode c.drainPolicy)

/-- A page of READ RECORD, none beyond the last. -/
def recordPage (s : State) (page : Byte) : Option (List Byte) :=
  match page.toNat with
  | 0 => some (recordItems s)
  | 1 => some (recordSettings s.cal)
  | 2 => some (logBytes s.notes.log)
  | _ => none

/-- READ RECORD (R181, R203). -/
def ownerReadRecord (page part : Byte) (s : State) : State × Reply := (s, answerPage (recordPage s page) part)

def serveReadRecord (p : Port) (page part : Byte) (s : State) : State := serve p .read (ownerReadRecord page part) s

def execReadRecord (p : Port) (page part : Byte) (s : State) : Host.Outcome State Fault Refusal :=
  .next (serveReadRecord p page part s)

/-! ### READ POSITION -/

/-- The slot and latched values of a MOVE. -/
def moveSlot (m : Motion) : Option (Nat × Nat × Nat × Nat) :=
  match m.kind with
  | .move slot target slow stop => some (slot, target, slow, stop)
  | .approach _ _ => none

/-- The start count and time of an APPROACH. -/
def approachFields (m : Motion) : Option (Int × Nat) :=
  match m.kind with
  | .approach start time => some (start, time)
  | .move _ _ _ _ => none

/-- Every field of R139 of the motion in progress. -/
def motionBytes (m : Option Motion) : List Byte :=
  let mv := m.bind moveSlot
  let ap := m.bind approachFields
  orOnes 1 (fun x : Motion => b1 (if x.isApproach then 0 else 1)) m
    ++ orOnes 1 (fun x : Motion => b1 (motionClientCode x.client)) m
    ++ orOnes 1 (fun x => b1 x.1) mv ++ orOnes 2 (fun x => b2 x.2.1) mv ++ orOnes 2 (fun x => b2 x.2.2.1) mv
    ++ orOnes 1 (fun x => b1 x.2.2.2) mv
    ++ orOnes 1 (fun x => b1 (directionCode x.direction)) m ++ orOnes 1 (fun x => b1 (driveCode x)) m
    ++ orOnes 1 (fun x => b1 x.stalls) m ++ orOnes 1 (fun x => b1 x.invalids) m
    ++ orOnes 2 (fun x => i2 x.1) ap ++ orOnes 1 (fun x => b1 (secDone x.2)) ap

/-- The DRY stage in progress. -/
def dryStage (s : State) : Option Stage :=
  match runningStage s with
  | some .dryWait => some .dryWait
  | some .opening => some .opening
  | some .airing => some .airing
  | some .retracting => some .retracting
  | some .filling | some .dosing | some .heating | some .holding | some .draining | none => none

/-- The remaining DRY_WAIT or airing time. -/
def dryTimer (s : State) : Option Nat :=
  match s.rod.dryWait with
  | some t => some t
  | none => s.rod.airing

/-- The readout of R151. A home switch that reads closed is 1, and the retry wait and the settle timer of a motion in progress
are 0 while they do not run; the DRY stage has its number of Table 11-5, 5 to 8; the membership of the two tracks is two flags,
packed with the flags beside it and no set of its own (DEDUCED, log 25). -/
def positionPage (s : State) : List Byte :=
  let m := s.rod.motion
  i2 s.rod.count
    ++ flags [s.rod.referenced, s.mon.home.state, doorClosed s, inHomeTrack s, inLatchFree s, rodHome s]
    ++ motionBytes m
    ++ orOnes 1 (fun x => b1 (outcomeCode x.1)) s.rod.last ++ orOnes 1 (fun x => b1 (motionClientCode x.2)) s.rod.last
    ++ orOnes 2 (fun x => b2 x.stallTimer) m ++ orOnes 1 (fun x => b1 (secLeft x.retry)) m
    ++ orOnes 2 (fun x => b2 x.settle) m ++ orOnes 1 (fun x => b1 (secDone x.2)) (m.bind approachFields)
    ++ b2 s.rod.invalidTotal
    ++ orOnes 1 (fun st => b1 (stageCode st)) (dryStage s) ++ orOnes 2 (fun t => b2 (secLeft t)) (dryTimer s)
    ++ flags [s.rod.closedDrying, s.rod.openingBlocked, s.rod.closedEarly, s.rod.positionMiss]

/-- READ POSITION (spec/07 R151, R203). -/
def ownerReadPosition (part : Byte) (s : State) : State × Reply := (s, pagePart (positionPage s) part)

def serveReadPosition (p : Port) (part : Byte) (s : State) : State := serve p .read (ownerReadPosition part) s

def execReadPosition (p : Port) (part : Byte) (s : State) : Host.Outcome State Fault Refusal :=
  .next (serveReadPosition p part s)

end Sys2Proof.Machine
end

