-- ==== Sys2Proof/Machine/RodRequests.lean ====
section
/-!
DEFINITION. The door-opener unit's acting requests: MOVE ROD and REFERENCE ROD (spec/07 R150).
-/

namespace Sys2Proof.Machine

/-- MOVE ROD (R150). -/
def ownerMoveRod (slot : Byte) (s : State) : State × Reply :=
  if s.sup.mode ≠ .service then (s, Reply.refused .mode)
  else if 7 < slot.toNat then (s, Reply.refused .range)
  else if s.rod.motion.isSome ∨ s.rod.referenced = false then (s, Reply.refused .state)
  else (finish (beginMove .service slot.toNat true s), Reply.ok)

def serveMoveRod (p : Port) (slot : Byte) (s : State) : State := serve p .serviceOnly (ownerMoveRod slot) s

def execMoveRod (p : Port) (slot : Byte) (s : State) : Host.Outcome State Fault Refusal := .next (serveMoveRod p slot s)

/-- REFERENCE ROD (R150). -/
def ownerReferenceRod (s : State) : State × Reply :=
  if s.sup.mode ≠ .service then (s, Reply.refused .mode)
  else if s.rod.motion.isSome then (s, Reply.refused .state)
  else (finish (askApproach .service s), Reply.ok)

def serveReferenceRod (p : Port) (s : State) : State := serve p .serviceOnly ownerReferenceRod s

def execReferenceRod (p : Port) (s : State) : Host.Outcome State Fault Refusal := .next (serveReferenceRod p s)

end Sys2Proof.Machine
end

