-- ==== Sys2Proof/Machine/PortLine.lean ====
section
/-!
DEFINITION. The port controller's line events (spec/11): the receiver (R197), the receive buffer and LOST (R198), the parse of
a request (R199, R202, R204), the dispatch to the owners, the answer's bytes (Table 11-2) and its end.
-/

namespace Sys2Proof.Machine

/-! ### Parsing (R199 checks 1 and 2) -/

/-- The outcome of the first two checks. -/
inductive Parsed where
  | unknown
  | format
  | request (r : Request)
  deriving DecidableEq, Repr

/-- A little-endian number. -/
def number : List Byte → Nat
  | [] => 0
  | b :: rest => b.toNat + 256 * number rest

/-- One optional field taken from the front of the bytes (R204): n bytes when it is present; none when they run out. -/
def takeField (present : Bool) (n : Nat) (bytes : List Byte) : Option (Option Nat × List Byte) :=
  if present then
    if bytes.length < n then none else some (some (number (bytes.take n)), bytes.drop n)
  else some (none, bytes)

/-- The payload of QUEUE PHASE (Table 11-6); none when its length is not what its presence bytes imply. -/
def parsePhase (bytes : List Byte) : Option PhaseFields :=
  match bytes with
  | tag :: kind :: a :: b :: rest => do
    let (fill, rest) ← takeField (a.getLsbD 0) 2 rest
    let (heat, rest) ← takeField (a.getLsbD 1) 1 rest
    let (hold, rest) ← takeField (a.getLsbD 2) 2 rest
    let (zones, rest) ← takeField (a.getLsbD 3) 1 rest
    let (level, rest) ← takeField (a.getLsbD 4) 1 rest
    let (slot, rest) ← takeField (a.getLsbD 5) 1 rest
    let (airing, rest) ← takeField (a.getLsbD 6) 2 rest
    if rest.isEmpty then
      some
        { tag := tag, kind := kind, fillVolume := fill.map (BitVec.ofNat 16), heatTarget := heat.map (BitVec.ofNat 8),
          holdTime := hold.map (BitVec.ofNat 16), zones := zones.map (BitVec.ofNat 8),
          pumpLevel := level.map (BitVec.ofNat 8), openSlot := slot.map (BitVec.ofNat 8),
          airing := airing.map (BitVec.ofNat 16), detergent := b.getLsbD 0, rinseAid := b.getLsbD 1,
          soilSample := b.getLsbD 2, regenWindow := b.getLsbD 3 }
    else none
  | _ => none

/-- A request without payload. -/
def bare (payload : List Byte) (r : Request) : Parsed := if payload.isEmpty then .request r else .format

/-- The request of a frame's body (Table 11-4). -/
def parseRequest (code : Byte) (payload : List Byte) : Parsed :=
  match code.toNat, payload with
  | 0x01, [page, part] => .request (.readStatus page part)
  | 0x02, [page, part] => .request (.readRecord page part)
  | 0x03, [a, b, c, d] => .request (.readResults (BitVec.ofNat 32 (number [a, b, c, d])))
  | 0x06, [part] => .request (.readPosition part)
  | 0x11, [a, b] => .request (.start (BitVec.ofNat 16 (number [a, b])))
  | 0x21, [h] => .request (.setHardness h)
  | 0x22, [l] => .request (.setRinseLevel l)
  | 0x29, [a, b, c] => .request (.setNoticeMask (BitVec.ofNat 24 (number [a, b, c])))
  | 0x31, [x] => .request (.setWakeSources x)
  | 0x44, [o, v] => .request (.overrideOutput o v)
  | 0x45, [n] => .request (.moveRod n)
  | 0x50, [i, n, a, b, c, d] => .request (.writeCalibration i n (BitVec.ofNat 32 (number [a, b, c, d])))
  | 0x53, [m] => .request (.restart m)
  | n, bytes =>
    match n with
    | 0x04 => bare bytes .readNotices
    | 0x05 => bare bytes .readFaults
    | 0x10 => match parsePhase bytes with
      | some f => .request (.queuePhase f)
      | none => .format
    | 0x12 => bare bytes .armRemote
    | 0x13 => bare bytes .disarmRemote
    | 0x14 => bare bytes .remoteStart
    | 0x15 => bare bytes .pause
    | 0x16 => bare bytes .resume
    | 0x17 => bare bytes .cancel
    | 0x20 => bare bytes .regenerate
    | 0x28 => bare bytes .ackNotices
    | 0x30 => bare bytes .enterQuiet
    | 0x40 => bare bytes .takeHold
    | 0x41 => bare bytes .releaseHold
    | 0x42 => bare bytes .enterService
    | 0x43 => bare bytes .leaveService
    | 0x46 => bare bytes .referenceRod
    | 0x51 => bare bytes .clearFaults
    | 0x52 => bare bytes .storeNow
    | 0x01 | 0x02 | 0x03 | 0x06 | 0x11 | 0x21 | 0x22 | 0x29 | 0x31 | 0x44 | 0x45 | 0x50 | 0x53 => .format
    | _ => .unknown

/-! ### Taking a frame (R198, R199, R202) -/

/-- A request handed to its owner (Table 11-4). -/
def serveRequest (p : Port) (r : Request) (s : State) : State :=
  match r with
  | .readStatus page part => serveReadStatus p page part s
  | .readRecord page part => serveReadRecord p page part s
  | .readResults n => serveReadResults p n s
  | .readNotices => serveReadNotices p s
  | .readFaults => serveReadFaults p s
  | .readPosition part => serveReadPosition p part s
  | .queuePhase f => serveQueuePhase p f s
  | .start delay => serveStart p delay s
  | .armRemote => serveArmRemote p s
  | .disarmRemote => serveDisarmRemote p s
  | .remoteStart => serveRemoteStart p s
  | .pause => servePause p s
  | .resume => serveResume p s
  | .cancel => serveCancel p s
  | .regenerate => serveRegenerate p s
  | .setHardness h => serveSetHardness p h s
  | .setRinseLevel l => serveSetRinseLevel p l s
  | .ackNotices => serveAckNotices p s
  | .setNoticeMask kinds => serveSetNoticeMask p kinds s
  | .enterQuiet => serveEnterQuiet p s
  | .setWakeSources x => serveSetWakeSources p x s
  | .takeHold => serveTakeHold p s
  | .releaseHold => serveReleaseHold p s
  | .enterService => serveEnterService p s
  | .leaveService => serveLeaveService p s
  | .overrideOutput o v => serveOverrideOutput p o v s
  | .moveRod n => serveMoveRod p n s
  | .referenceRod => serveReferenceRod p s
  | .writeCalibration i n v => serveWriteCalibration p i n v s
  | .clearFaults => serveClearFaults p s
  | .storeNow => serveStoreNow p s
  | .restart m => serveRestart p m s

/-- A frame's body is taken: UNKNOWN and FORMAT first, then the request (R199). -/
def takeFrame (p : Port) (body : List Byte) (s : State) : State :=
  match body with
  | [] => answer p ⟨.unknown, false, 0, []⟩ s
  | code :: payload =>
    match parseRequest code payload with
    | .unknown => answer p ⟨.unknown, false, 0, []⟩ s
    | .format => answer p ⟨.format, false, 0, []⟩ s
    | .request r => serveRequest p r s

/-- The buffered frame is taken when the transmitter is idle (R198). -/
def takeBuffered (p : Port) (s : State) : State :=
  match (s.ports.get p).buffer, (s.ports.get p).answers with
  | some body, [] => takeFrame p body (onPort p (fun x => { x with buffer := none }) s)
  | _, _ => s

/-! ### The receiver (R197) -/

/-- The 8-bit sum of a length and the bytes kept. -/
def bodySum (len : Nat) (kept : List Byte) : Byte := kept.foldl (· + ·) (BitVec.ofNat 8 len)

/-- The check byte of a frame (Table 11-1): the two's complement of the sum. -/
def checkByte (len : Nat) (kept : List Byte) : Byte := -(bodySum len kept)

/-- The receiver after a byte with its stop bit, and a body completed by it. -/
def receiveByte (r : Receiver) (b : Byte) : Receiver × Option (List Byte) :=
  match r with
  | .hunt => (if b = 0xC3 then .length else .hunt, none)
  | .length => (if 1 ≤ b.toNat ∧ b.toNat ≤ 48 then .body b.toNat [] else .hunt, none)
  | .body len kept =>
    (if kept.length + 1 = len then .check len (kept ++ [b]) else .body len (kept ++ [b]), none)
  | .check len kept => (.hunt, if b = checkByte len kept then some kept else none)

/-- A completed frame enters the empty buffer, or is discarded with LOST set (R198). -/
def PortState.complete (x : PortState) (body : List Byte) : PortState :=
  match x.buffer with
  | none => { x with buffer := some body }
  | some _ => { x with lost := true }

/-- BYTE_RECEIVED (R197, R198): a byte without its stop bit abandons the frame. -/
def byteReceived (p : Port) (b : Byte) (stop : Bool) (s : State) : State :=
  if stop = false then onPort p (fun x => { x with receiver := .hunt }) s
  else
    let (r, done) := receiveByte (s.ports.get p).receiver b
    let s := onPort p (fun x => { x with receiver := r }) s
    match done with
    | none => s
    | some body => takeBuffered p (onPort p (fun x => x.complete body) s)

def execByteReceived (p : Port) (b : Byte) (stop : Bool) (s : State) : Host.Outcome State Fault Refusal :=
  .next (byteReceived p b stop s)

/-! ### The answer's bytes (Table 11-1, Table 11-2) -/

/-- Byte 0 of an answer's body (Table 11-2). -/
def Status.code : Status → Byte
  | .ok => 0
  | .clamped => 1
  | .refused _ => 2
  | .denied => 3
  | .held => 4
  | .unknown => 5
  | .format => 6

/-- The reason byte (Table 11-2). -/
def Reason.code : Reason → Byte
  | .state => 1
  | .door => 2
  | .leak => 3
  | .full => 4
  | .badPhase => 5
  | .badOrder => 6
  | .notArmed => 7
  | .range => 8
  | .fault => 9
  | .mode => 10

/-- Byte 1 of an answer's body (Table 11-2): bit 0 LOST, bit 1 GAP, bits 2 and 3 the number of result records. -/
def Answer.flags (a : Answer) : Byte :=
  BitVec.ofNat 8 (a.lost.toNat + 2 * a.gap.toNat + 4 * (a.records % 4))

/-- An answer's body (Table 11-2): status, flags, the reason of a refusal, the payload of an OK or CLAMPED. -/
def Answer.body (a : Answer) : List Byte :=
  [a.status.code, a.flags] ++
    (match a.status with
     | .ok | .clamped => a.payload
     | .refused why => [why.code]
     | .denied | .held | .unknown | .format => [])

/-- The bytes of a frame with that body (Table 11-1). -/
def frameOf (body : List Byte) : List Byte :=
  [0xC3, BitVec.ofNat 8 body.length] ++ body ++ [checkByte body.length body]

/-- The frame a port's transmitter is sending, none when it is idle (R198). -/
def sending (s : State) (p : Port) : Option (List Byte) := ((s.ports.get p).answers.head?).map (fun a => frameOf a.body)

/-- INTER_BYTE_GAP_EXPIRY: a frame in LENGTH, BODY or CHECK is abandoned (R197). -/
def execInterByteGapExpiry (p : Port) (s : State) : Host.Outcome State Fault Refusal :=
  .next (onPort p (fun x => { x with receiver := .hunt }) s)

/-- ANSWER_SENT: the answer being sent has ended, and a buffered frame is taken once no answer is left (R198). -/
def answerSent (p : Port) (s : State) : State :=
  if (s.ports.get p).answers.isEmpty then s
  else takeBuffered p (onPort p (fun x => { x with answers := x.answers.tail }) s)

def execAnswerSent (p : Port) (s : State) : Host.Outcome State Fault Refusal := .next (answerSent p s)

end Sys2Proof.Machine
end

