-- ==== Sys2Proof/Machine/ProgramEvents.lean ====
section
/-!
DEFINITION. Events of the program controller (spec/01): the start delay's expiry (R8) and the DOOR qualification's (R24).
-/

namespace Sys2Proof.Machine

/-- The conditions checked when the delay expires (R8). -/
def delayConditions (s : State) : Bool :=
  s.sup.mode == .normal && doorClosed s && !leakPresent s && !startFault s

/-- START_DELAY_EXPIRY: the part wakes first when DELAY is enabled; the program starts, or returns to READY with
START_REFUSED (R8, spec/08 R169). -/
def startDelayExpiry (s : State) : State :=
  if s.prog.state = .delayed ∧ s.prog.delay.isSome = true then
    let s := if s.sup.wake.delay then wakeUp .delay s else s
    if delayConditions s then finish (enterRunning s)
    else raiseAll .startRefused (s.onProg (fun p => { p with state := .ready, delay := none }))
  else s

def execStartDelayExpiry (s : State) : Host.Outcome State Fault Refusal := .next (startDelayExpiry s)

/-- The qualification timer counts (R24). -/
def qualRuns (s : State) : Bool :=
  (runningPhase s).isSome && s.prog.holds.door && doorClosed s && rodHome s

/-- DOOR_QUALIFICATION_EXPIRY: DOOR is removed (R24). -/
def doorQualExpiry (s : State) : State :=
  if qualRuns s then finish (s.onProg (fun p => { p with holds := { p.holds with door := false }, doorQual := 0 }))
  else s

def execDoorQualificationExpiry (s : State) : Host.Outcome State Fault Refusal := .next (doorQualExpiry s)

end Sys2Proof.Machine
end

