-- ==== Sys2Proof/Machine/RodEvents.lean ====
section
/-!
DEFINITION. Events of the door-opener unit (spec/07): encoder events (R130, R131, R141), the approach's time limit (R134), the
settle timer (R140), stalls and retry waits (R142), the DRY_WAIT and airing timers (R144, R147).
-/

namespace Sys2Proof.Machine

/-! ### Encoder -/

/-- The line pair after the event, with the count moved by a valid transition (R130). -/
def countStep (a b : Bool) (s : State) : State :=
  s.onRod (fun r =>
    { r with count := satCount (r.count + encoderStep r.encA r.encB a b), encA := a, encB := b })

/-- What a valid transition does to a motion's timers and drive state (R140, R142): the stall and settle timers restart,
and a motion that drives forms its drive state anew. A PAUSED motion's stall timer restarts too, by R130 over R143 (log 40). -/
def Motion.atCount (m : Motion) (count : Int) : Motion :=
  let m := { m with stallTimer := 0, settle := 0 }
  if m.driving then m.reform count else m

/-- A driving outward MOVE has passed count 1500 (R141). -/
def overtravels (m : Motion) (count : Int) : Bool :=
  !m.isApproach && m.driving && m.direction == .outward && decide (1500 < count)

/-- The inward travel of an approach has reached 2000 counts (R134). -/
def travelLimit (m : Motion) (count : Int) : Bool :=
  match m.kind with
  | .approach start _ => decide (2000 ≤ start - count)
  | .move _ _ _ _ => false

/-- A valid transition (R130, R134, R140 to R142). -/
def validStep (a b : Bool) (s : State) : State :=
  let s := countStep a b s
  match s.rod.motion with
  | none => s
  | some m =>
    if overtravels m s.rod.count then
      endMotion .overtravel (logFault .overtravel .doorOpener (some s.rod.count) s)
    else if travelLimit m s.rod.count then failApproach s
    else onMotion (fun m => m.atCount s.rod.count) s

/-- An invalid transition (R131): the third of one motion ends it ENCODER. -/
def invalidStep (a b : Bool) (s : State) : State :=
  let s := s.onRod (fun r => { r with invalidTotal := min 65535 (r.invalidTotal + 1), encA := a, encB := b })
  let s := onMotion (fun m => { m with invalids := m.invalids + 1 }) s
  match s.rod.motion with
  | none => s
  | some m => if 3 ≤ m.invalids then encoderEnd s else s

/-- ENCODER_EVENT: the line pair takes the state (a, b) (R130, R131); with no change there is no event. -/
def encoderEvent (a b : Bool) (s : State) : State :=
  if a = s.rod.encA ∧ b = s.rod.encB then s
  else if a ≠ s.rod.encA ∧ b ≠ s.rod.encB then finish (invalidStep a b s)
  else finish (validStep a b s)

def execEncoderEvent (a b : Bool) (s : State) : Host.Outcome State Fault Refusal := .next (encoderEvent a b s)

/-! ### Timers of a motion -/

/-- The approach time counts (R134). -/
def approachRuns (s : State) : Bool :=
  match s.rod.motion with
  | some m => m.isApproach && !m.paused
  | none => false

/-- APPROACH_TIME_LIMIT (R134). -/
def approachLimit (s : State) : State := if approachRuns s then finish (failApproach s) else s

def execApproachTimeLimit (s : State) : Host.Outcome State Fault Refusal := .next (approachLimit s)

/-- The settle timer counts (R140, R143). -/
def settleRuns (s : State) : Bool :=
  match s.rod.motion with
  | some m => m.drive == .settling
  | none => false

/-- The outcome of a settled move (R140). -/
def settleOutcome (m : Motion) (count : Int) : Outcome := if farFrom m count then .miss else .inPosition

/-- SETTLE_TIMER_EXPIRY (R140). -/
def settleTimerExpiry (s : State) : State :=
  match s.rod.motion with
  | some m => if settleRuns s then finish (endMotion (settleOutcome m s.rod.count) s) else s
  | none => s

def execSettleTimerExpiry (s : State) : Host.Outcome State Fault Refusal := .next (settleTimerExpiry s)

/-- The stall timer of a motion counts (R142). -/
def motionStallRuns (s : State) : Bool :=
  match s.rod.motion with
  | some m => m.driving && (motorFinal s).isSome
  | none => false

/-- The first inward stall: RETRY_WAIT for 2 s (R142). -/
def Motion.retryAfterStall (m : Motion) : Motion :=
  { m with stalls := 1, drive := .retryWait, retry := 2000, stallTimer := 0 }

/-- MOTION_STALL, while the stall timer runs (R142). -/
def motionStall (s : State) : State :=
  match s.rod.motion with
  | some m =>
    if motionStallRuns s = false then s
    else finish (match m.direction with
      | .outward => endMotion .obstructed s
      | .inward => if m.stalls = 0 then onMotion Motion.retryAfterStall s else stuckEnd s)
  | none => s

def execMotionStall (s : State) : Host.Outcome State Fault Refusal := .next (motionStall s)

/-- The retry wait counts (R142, R143). -/
def retryWaitRuns (s : State) : Bool :=
  match s.rod.motion with
  | some m => m.drive == .retryWait && !m.paused
  | none => false

/-- RETRY_WAIT_EXPIRY: the motion drives again (R142). -/
def retryWaitExpiry (s : State) : State :=
  if retryWaitRuns s then
    finish (onMotion (fun m => { m with drive := driveAt m s.rod.count, retry := 0, stallTimer := 0, settle := 0 }) s)
  else s

def execRetryWaitExpiry (s : State) : Host.Outcome State Fault Refusal := .next (retryWaitExpiry s)

/-! ### Timers of the DRY stages -/

/-- The DRY_WAIT timer counts (R144). -/
def dryWaitRuns (s : State) : Bool := s.rod.dryWait.isSome && stageOpen s .dryWait && !suspended s

/-- DRY_WAIT_EXPIRY (R144). -/
def dryWaitExpiry (s : State) : State :=
  if dryWaitRuns s then finish (reportEnd (.goto .opening) (s.onRod (fun r => { r with dryWait := none }))) else s

def execDryWaitExpiry (s : State) : Host.Outcome State Fault Refusal := .next (dryWaitExpiry s)

/-- The airing timer counts (R147). -/
def airingRuns (s : State) : Bool := s.rod.airing.isSome && stageOpen s .airing && !suspended s

/-- AIRING_EXPIRY (R147). -/
def airingExpiry (s : State) : State :=
  if airingRuns s then finish (reportEnd (.goto .retracting) (s.onRod (fun r => { r with airing := none }))) else s

def execAiringExpiry (s : State) : Host.Outcome State Fault Refusal := .next (airingExpiry s)

end Sys2Proof.Machine
end

