-- ==== Sys2Proof/Machine/SoftenerEvents.lean ====
section
/-!
DEFINITION. The softener's own events (spec/04): the brine-fill request (R82), the dissolve, flush and tail timers (R84, R87,
R86), the entry of FLUSH (R85).
-/

namespace Sys2Proof.Machine

/-- BRINE_FILL_REQUEST, when the conditions of R82 hold. -/
def brineFillRequest (s : State) : State :=
  if brineFillReady s then
    finish (askSoft .brine s.cal.brineVolume (s.onSoft (fun f => { f with state := .brineFill })))
  else s

def execBrineFillRequest (s : State) : Host.Outcome State Fault Refusal := .next (brineFillRequest s)

/-- DISSOLVE_EXPIRY, in the order of R84: the salt sample gives the restore factor. Held at the low-salt factor, it follows a
write of that calibration until the restore (`calEffect`; DEDUCED, log 41). -/
def dissolveExpiry (s : State) : State :=
  if s.soft.dissolve.isSome then
    s.onSoft (fun f =>
      { f with dissolve := none, factor := if s.mon.salt.state then s.cal.lowSalt else 100, charged := true,
               state := .waitWindow })
  else s

def execDissolveExpiry (s : State) : Host.Outcome State Fault Refusal := .next (dissolveExpiry s)

/-- FLUSH_ENTRY, when a window is open (R85 to R87). -/
def flushEntry (s : State) : State :=
  match flushWindow s with
  | some k => finish (enterFlush k s)
  | none => s

def execFlushEntry (s : State) : Host.Outcome State Fault Refusal := .next (flushEntry s)

/-- The flush timer counts while the brine valve's final state is open (R87). -/
def flushRuns (s : State) : Bool := s.soft.flush.isSome && s.soft.state == .flush && brineFinal s

/-- FLUSH_TIMER_EXPIRY (R87). -/
def flushExpiry (s : State) : State :=
  if flushRuns s then
    finish (askSoft .rinse s.cal.rinseVolume (s.onSoft (fun f => { f with state := .resinRinse, flush := none })))
  else s

def execFlushTimerExpiry (s : State) : Host.Outcome State Fault Refusal := .next (flushExpiry s)

/-- STAND_ALONE_TAIL_EXPIRY (R86). -/
def tailExpiry (s : State) : State :=
  if s.soft.tail.isSome then finish (s.onSoft (fun f => { f with tail := none })) else s

def execStandAloneTailExpiry (s : State) : Host.Outcome State Fault Refusal := .next (tailExpiry s)

end Sys2Proof.Machine
end

