-- ==== Sys2Proof/Machine/ThermalEvents.lean ====
section
/-!
DEFINITION. Events of the thermal and circulation unit (spec/03): readings (R52 to R56, R60), SENSOR_TEMP (R53), the rise
check (R57, R58), the hold timer (R59), the diverter (R64 to R67), the drain (R69, R70).
-/

namespace Sys2Proof.Machine

/-! ### Readings -/

/-- A sensor value held to 0.0..100.0 °C, in half degrees (R52). -/
def readingOf (halfDegrees : Int) : Nat := min 200 halfDegrees.toNat

/-- A reading of 2.0..98.0 °C (R52). -/
def inRange (raw : Nat) : Bool := decide (4 ≤ raw) && decide (raw ≤ 196)

/-- The limit latch after a raw reading (R60). -/
def latchAfter (raw : Nat) (latch : Bool) : Bool := if 150 ≤ raw then true else if raw ≤ 140 then false else latch

/-- The raw reading, with the latch and the out-of-range timer (R52, R53, R60). -/
def takeRaw (raw : Nat) (s : State) : State :=
  s.onTherm (fun t =>
    { t with raw := some raw, latch := latchAfter raw t.latch,
             outTimer :=
               if inRange raw then none
               else if s.notes.standing.sensorTemp then none
               else match t.outTimer with
                 | some x => some x
                 | none => some 0 })

/-- The regulator's step in a heating stage (R55, Table 3-1). -/
def stepHeater (heating : Bool) (target w : Nat) (s : State) : State :=
  s.onTherm (fun t => { t with regulator := t.regulator.map (stepRegulator heating target w) })

/-- A working temperature in HEATING (R55 to R57): the regulator steps, the first rise window starts where none runs, and
a temperature at the target is "target reached". -/
def heatingReading (target w : Nat) (s : State) : State :=
  if stageOpen s .heating then
    let s := stepHeater true target w s
    if target ≤ w then targetReached s
    else if s.therm.rise.isNone && !suspended s then s.onTherm (fun t => { t with rise := some ⟨0, w⟩ })
    else s
  else s

/-- A new working temperature: peak (R54), regulator and end of HEATING (R55, R56). -/
def takeWorking (w : Nat) (s : State) : State :=
  let s := s.onTherm (fun t => { t with working := some w })
  match runningPhase s with
  | none => s
  | some (r, ph) =>
    let s := onPhase (fun x => { x with peak := max x.peak w }) s
    match ph.stage, r.heatTarget with
    | .heating, some target => heatingReading target w s
    | .holding, some target => stepHeater false target w s
    | _, _ => s

/-- TEMPERATURE_READING (R52). -/
def temperatureReading (halfDegrees : Int) (s : State) : State :=
  let raw := readingOf halfDegrees
  let s := takeRaw raw s
  finish (if inRange raw then takeWorking raw s else s)

def execTemperatureReading (halfDegrees : Int) (s : State) : Host.Outcome State Fault Refusal :=
  .next (temperatureReading halfDegrees s)

/-- The stage in progress loses its heater (R53): HEATING ends with "heat skipped", HOLDING goes on without a regulator. -/
def loseHeater (s : State) : State :=
  let s := s.onTherm (fun t => { t with regulator := none, rise := none })
  match runningStage s with
  | some .heating =>
    onPhase (fun ph => { ph with heated := false, heatSkipped := true, stageEnd := some .finished }) s
  | some .holding => onPhase (fun ph => { ph with heated := false }) s
  | _ => s

/-- SENSOR_TEMP, while the out-of-range timer runs (R53). -/
def sensorTemp (s : State) : State :=
  if s.therm.outTimer.isSome then
    let s := s.onTherm (fun t => { t with outTimer := none })
    let s := onStanding (fun x => { x with sensorTemp := true }) s
    let s := logFault .sensorTemp .thermalUnit (s.therm.raw.map (fun r => (r : Int))) s
    finish (loseHeater s)
  else s

def execSensorTemp (s : State) : Host.Outcome State Fault Refusal := .next (sensorTemp s)

/-! ### Rise check (R57, R58) -/

/-- The rise-check window counts (R57). -/
def riseRuns (s : State) : Bool := s.therm.rise.isSome && stageOpen s .heating && !suspended s

/-- HEATING ends without its target: HOLDING is entered, not heated (R58 steps 2 and 3). -/
def missTarget (s : State) : State :=
  match runningPhase s with
  | some (r, _) => enterHolding r (onPhase (fun ph => { ph with heatMissed := true, heated := false }) s)
  | none => s

/-- The slow count after a miss, and HEATER from 2 on (R58 step 4). -/
def countSlow (s : State) : State :=
  let s := s.onTherm (fun t => { t with slowCount := t.slowCount + 1 })
  if 2 ≤ s.therm.slowCount ∧ s.notes.standing.heater = false then
    logFault .heater .thermalUnit none (onStanding (fun x => { x with heater := true }) s)
  else s

/-- A miss with that gain, in the order of R58. -/
def riseMiss (gain : Int) (s : State) : State := countSlow (missTarget (logFault .heatSlow .thermalUnit (some gain) s))

/-- RISE_CHECK_EXPIRY (R57, R58); gains are in half degrees. -/
def riseExpiry (s : State) : State :=
  match s.therm.rise, s.therm.working with
  | some win, some w =>
    if riseRuns s then
      let gain : Int := (w : Int) - (win.reference : Int)
      if 2 ≤ gain then s.onTherm (fun t => { t with rise := some ⟨0, w⟩ }) else finish (riseMiss gain s)
    else s
  | _, _ => s

def execRiseCheckExpiry (s : State) : Host.Outcome State Fault Refusal := .next (riseExpiry s)

/-! ### Hold timer (R59) -/

/-- The hold timer counts (R59). -/
def holdRuns (s : State) : Bool := s.therm.hold.isSome && stageOpen s .holding && !suspended s

/-- HOLD_TIMER_EXPIRY, with what the turbidity sensor reads if a sample is taken (R59, spec/01 R27). -/
def holdExpiry (turbidity : Turbidity) (s : State) : State :=
  match runningPhase s with
  | some (r, _) => if holdRuns s then finish (holdingOver turbidity r s) else s
  | none => s

def execHoldTimerExpiry (turbidity : Turbidity) (s : State) : Host.Outcome State Fault Refusal :=
  .next (holdExpiry turbidity s)

/-! ### Diverter (R64 to R67) -/

/-- A pulse has brought the diverter to a position: the stall timer restarts, an arrival in the wanted set starts the
ALTERNATE timer and a position outside it discards the timer (R66, R67). -/
def diverterArrives (p : Option (Fin 4)) (s : State) : State :=
  finish (startAlternate (s.onTherm (fun t => { t with position := p, divStall := 0 })))

/-- DETENT_PULSE: a known position advances by 1 modulo 4 (R64). -/
def detentPulse (s : State) : State :=
  diverterArrives (s.therm.position.map (fun p => p + 1)) (setDebounced .detent true s)

def execDetentPulse (s : State) : Host.Outcome State Fault Refusal := .next (detentPulse s)

/-- A slipped count is logged at an index pulse taken at position 0, 1 or 2 (R64). -/
def logSlip (s : State) : State :=
  match s.therm.position with
  | some p => if p = 3 then s else logFault .diverterSlip .thermalUnit (some (p.val : Int)) s
  | none => s

/-- INDEX_PULSE: the position is 0 (R64). -/
def indexPulse (s : State) : State := diverterArrives (some 0) (logSlip (setDebounced .index true s))

def execIndexPulse (s : State) : Host.Outcome State Fault Refusal := .next (indexPulse s)

/-- The ALTERNATE switching timer counts (R66, R67). One stopped by a standing DIVERTER_STALL keeps its value and counts on
after CLEAR FAULTS (DESIGN CHOICE, log 44). -/
def alternateRuns (s : State) : Bool :=
  s.therm.alternate.isSome && circulating s && !s.notes.standing.diverterStall

/-- The other of LOWER and UPPER (R66). -/
def otherZone : WantedZone → WantedZone
  | .lower => .upper
  | .upper => .lower
  | .both => .both

/-- ALTERNATE_SWITCH_EXPIRY (R66). -/
def alternateExpiry (s : State) : State :=
  if alternateRuns s then
    finish (s.onTherm (fun t => { t with wanted := t.wanted.map otherZone, alternate := none }))
  else s

def execAlternateSwitchExpiry (s : State) : Host.Outcome State Fault Refusal := .next (alternateExpiry s)

/-- DIVERTER_STALL, while the diverter motor's final state is on (R67): set and logged unless it stands, under the service
override too, since R67 gives the log a tag only "when one runs" and no stall but an override's meets no running phase; while
it stands there is no further log, as which R166 is read (DEDUCED, log 19). The stall timer starts again. -/
def diverterStall (s : State) : State :=
  if diverterFinal s then
    let t := s.onTherm (fun t => { t with divStall := 0 })
    if s.notes.standing.diverterStall then t
    else
      let t := onStanding (fun x => { x with diverterStall := true }) t
      finish (logFault .diverterStall .thermalUnit (s.therm.position.map (fun p => (p.val : Int))) t)
  else s

def execDiverterStall (s : State) : Host.Outcome State Fault Refusal := .next (diverterStall s)

/-! ### Drain (R69 to R72) -/

/-- The tail timer counts (R68, R72). -/
def tailRuns (s : State) : Bool :=
  match s.therm.drain with
  | some j => j.state == .tailing && !drainHeld s j
  | none => false

/-- The timeout timer counts (R70, R71, R72). -/
def timeoutRuns (s : State) : Bool :=
  match s.therm.drain with
  | some j => j.state != .dryHeld && !drainHeld s j && !extension s
  | none => false

/-- DRAIN_TAIL_EXPIRY: COMPLETE, or DRY_HELD while an extension runs (R69, R71). -/
def drainTailExpiry (s : State) : State :=
  if tailRuns s then
    finish (if extension s then onDrain (fun j => { j with state := .dryHeld, tail := 15000 }) s else completeDrain s)
  else s

def execDrainTailExpiry (s : State) : Host.Outcome State Fault Refusal := .next (drainTailExpiry s)

/-- DRAIN_BLOCKED: the job ends TIMEOUT, is logged and faults the program (R70, spec/01 R16). -/
def drainBlocked (s : State) : State :=
  if timeoutRuns s then
    let s := logFault .drainBlocked .thermalUnit (some (if levelWater s then 1 else 0)) s
    finish (faultAndClose (s.onTherm (fun t => { t with drain := none })))
  else s

def execDrainBlocked (s : State) : Host.Outcome State Fault Refusal := .next (drainBlocked s)

end Sys2Proof.Machine
end

