-- ==== Sys2Proof/Machine/WaterEvents.lean ====
section
/-!
DEFINITION. Events of water intake (spec/02): flow pulses (R31 to R33, R46, R47), the settle window's expiry (R38), fill
stalls (R42, R43), and the retry of a stalled fill (spec/01 R25).
-/

namespace Sys2Proof.Machine

/-! ### Unattributed pulses (R46, R47) -/

/-- The history after a pulse at `now`: the latest 20 arrival times, oldest first (R46). -/
def arrivalsAfter (arrivals : List Nat) (now : Nat) : List Nat :=
  (arrivals ++ [now]).drop (arrivals.length + 1 - 20)

/-- The latest 20 pulses lie within 60 s (R47). -/
def leakFound (arrivals : List Nat) (now : Nat) : Bool :=
  match arrivals with
  | oldest :: _ => decide (20 ≤ arrivals.length) && decide (now - oldest ≤ 60000)
  | [] => false

/-- INLET_LEAK is set, logged and reported: a RUNNING program is faulted (R47). -/
def setInletLeak (s : State) : State :=
  let s := onStanding (fun x => { x with inletLeak := true }) s
  let s := logFault .inletLeak .waterIntake (some s.water.unattributed) s
  if s.prog.state = .running then faultAndClose s else s

/-- An unattributed pulse (R46, R47). -/
def unattributedPulse (s : State) : State :=
  let s := s.onWater (fun w =>
    { w with unattributed := min 65535 (w.unattributed + 1), arrivals := arrivalsAfter w.arrivals s.clock })
  if leakFound s.water.arrivals s.clock && !s.notes.standing.inletLeak then setInletLeak s else s

/-! ### Attributed pulses (R31, R33) -/

/-- A pulse of the current fill record, its split charged to the softener (R33 steps 1 and 2). -/
def currentPulse (r : FillRecord) (s : State) : State :=
  let (r', s) := pulseRecord r s
  s.onWater (fun w => { w with record := some r' })

/-- A pulse of the current service fill; one that has reached 65,535 pulses counts no more (R35, R48). -/
def servicePulse (s : State) : State :=
  match s.water.record with
  | some r => if r.origin = .service ∧ r.p < 65535 then currentPulse r s else unattributedPulse s
  | none => unattributedPulse s

/-- The holder's fill ends TARGET when its demand was on and nothing remains (R33 step 3). -/
def endIfMet (demanded met : Bool) (s : State) : State := if demanded && met then endHolderFill .target s else s

/-- A pulse of the holder's fill; it restarts the stall timer (R33, R42). -/
def holderPulse (c : Client) (s : State) : State :=
  let demanded := inletDemand s
  let s := s.onWater (fun w => { w with stall := 0 })
  match c with
  | .wash =>
    match s.water.record with
    | some r => endIfMet demanded r.pulse.met (currentPulse r s)
    | none => s
  | .brine | .rinse =>
    match s.water.softCounter with
    | some x => endIfMet demanded x.pulse.met (s.onWater (fun w => { w with softCounter := some x.pulse }))
    | none => s

/-- A pulse of a record kept apart by the window (R35). -/
def keptPulse (win : SettleWindow) (r : FillRecord) (s : State) : State :=
  if r.p < 65535 then
    let (r', s) := pulseRecord r s
    s.onWater (fun w => { w with window := some { win with kept := some r' } })
  else unattributedPulse s

/-- A pulse of the fill whose release began the settle window (R31 case 3). -/
def windowPulse (win : SettleWindow) (s : State) : State :=
  match win.kept with
  | some r => keptPulse win r s
  | none =>
    match win.owner with
    | .wash =>
      match s.water.record with
      | some r => currentPulse r s
      | none => s
    | .service => servicePulse s
    | .brine | .rinse => s.onWater (fun w => { w with window := some { win with counter := win.counter.map (·.pulse) } })

/-- FLOW_PULSE: the pulse goes to exactly one owner, the first case of R31 that applies. -/
def flowPulse (s : State) : State :=
  finish
    (if s.sup.overrides.inlet then servicePulse s
     else match s.water.holder with
       | some c => holderPulse c s
       | none =>
         match s.water.window with
         | some win => windowPulse win s
         | none => unattributedPulse s)

def execFlowPulse (s : State) : Host.Outcome State Fault Refusal := .next (flowPulse s)

/-! ### The settle window's expiry (R38) -/

/-- The grant at the expiry: WASH_FILL first, then the softener's client (R38); none while the inlet valve's override is on,
since the inlet is not grantable then (R49). -/
def grantWaiting (s : State) : State :=
  if s.sup.overrides.inlet then s
  else if s.water.waitWash then
    grant .wash (onHolds (fun h => { h with inlet := false }) (s.onWater (fun w => { w with waitWash := false })))
  else match s.water.waitSoft with
    | some .brine => grant .brine (s.onWater (fun w => { w with waitSoft := none }))
    | some .rinse => grant .rinse (s.onWater (fun w => { w with waitSoft := none }))
    | none => s

/-- The released fill becomes final (R36): a wash fill that has ended, a service fill; a record kept apart is discarded. -/
def windowFinal (win : SettleWindow) (s : State) : State :=
  match win.kept, win.owner, s.water.record with
  | none, .wash, some r => if r.origin = .wash ∧ r.ending.isSome = true then washFinal s else s
  | none, .service, some r =>
    if r.origin = .service then s.onWater (fun w => { w with record := some { r with isFinal := true } }) else s
  | _, _, _ => s

/-- SETTLE_WINDOW_EXPIRY (R36, R38, spec/04 R83, R88). -/
def settleExpiry (s : State) : State :=
  match s.water.window with
  | none => s
  | some win =>
    let s := s.onWater (fun w => { w with window := none })
    finish (softFinal win.owner win.counter (grantWaiting (windowFinal win s)))

def execSettleWindowExpiry (s : State) : Host.Outcome State Fault Refusal := .next (settleExpiry s)

/-! ### Stalls and retries (R42, R43, spec/01 R25) -/

/-- A stall of the wash fill (spec/01 R25): counted and raised; the first two put the phase under WATER for 60 s, the
third logs NO_WATER and faults the program. -/
def washStall (s : State) : State :=
  let s := releaseHolder s
  let s := raiseAll .noWater (s.onProg (fun p => { p with stallCount := p.stallCount + 1 }))
  if s.prog.stallCount < 3 then
    onHolds (fun h => { h with water := true }) (s.onProg (fun p => { p with retry := some 60000 }))
  else faultAndClose (logFault .noWater .programController (some s.prog.stallCount) s)

/-- A stall of the brine fill (spec/04 R83). -/
def brineStall (s : State) : State :=
  let v := match s.water.softCounter with | some c => c.v | none => 0
  let s := logFault .brineStall .softener (some v) (releaseHolder s)
  s.onSoft (fun f => { f with retryBlock := true, state := .pending })

/-- FILL_STALL, while the stall timer runs (R42, R43). -/
def fillStall (s : State) : State :=
  match s.water.holder with
  | none => s
  | some c =>
    if inletFinal s = false then s
    else finish (match c with
      | .wash => washStall s
      | .brine => brineStall s
      | .rinse => releaseHolder s)

def execFillStall (s : State) : Host.Outcome State Fault Refusal := .next (fillStall s)

/-- WATER_RETRY_EXPIRY (spec/01 R25). -/
def waterRetryExpiry (s : State) : State :=
  if s.prog.retry.isSome then
    finish (retryWash (s.onProg (fun p => { p with retry := none, holds := { p.holds with water := false } })))
  else s

def execWaterRetryExpiry (s : State) : Host.Outcome State Fault Refusal := .next (waterRetryExpiry s)

end Sys2Proof.Machine
end

