-- ==== Sys2Proof/Machine/Idle.lean ====
section
/-!
DEFINITION. What the part does with no command waiting: an event of its own that is due (log 3), or one millisecond of its
timers (log 1, log 2, log 24).
-/

namespace Sys2Proof.Machine

/-! ### Events that are due -/

/-- The command when the condition holds. -/
def dueIf (c : Bool) (i : Instr) : Option Instr := if c then some i else none

/-- A counting timer has reached its length. -/
def reached (t : Option Nat) (ms : Nat) : Bool :=
  match t with
  | some x => decide (ms ≤ x)
  | none => false

/-- A running-down timer has reached zero. -/
def ranOut (t : Option Nat) : Bool := t == some 0

/-- The delivered change of an input (Table 8-1). -/
def deliveredChange (i : SwitchInput) (v : Bool) : Instr :=
  match i with
  | .door => .doorSwitchChange v
  | .home => .homeSwitchChange v
  | .level => .levelSwitchChange v
  | .overfill => if v then .overfillOnset else .overfillSwitchOpen
  | .leak => if v then .leakOnset else .leakEnd
  | .salt => .saltSwitchChange v
  | .lowD => .lowSwitchChange .detergent v
  | .lowR => .lowSwitchChange .rinseAid v
  | .capD => .capSwitchChange .detergent v
  | .capR => .capSwitchChange .rinseAid v
  | .strokeD => .strokePulse .detergent
  | .strokeR => .strokePulse .rinseAid
  | .detent => .detentPulse
  | .index => .indexPulse
  | .inhibit => if v then .inhibitAssertion else .inhibitRelease
  | .powerFail => .powerFailWarning
  | .servicePresent => .servicePresentChange v
  | .wakeKey => .wakeKeyPress

/-- The change of an input whose candidate timer has reached its debounce time (R153, R154). -/
def debounceDue (s : State) (i : SwitchInput) : Option Instr :=
  if candidateRuns s i && decide (debounceMs i ≤ (s.mon.get i).timer) then
    some (if silentChange s i (rawAsserted s i) then .debouncedStateSilentUpdate i (rawAsserted s i)
          else deliveredChange i (rawAsserted s i))
  else none

/-- The settle window has run out. -/
def settleDue (s : State) : Bool :=
  match s.water.window with
  | some w => w.left == 0
  | none => false

/-- The drain job's tail has reached 15 s while it counts. -/
def drainTailDue (s : State) : Bool :=
  tailRuns s && (match s.therm.drain with | some j => decide (15000 ≤ j.tail) | none => false)

/-- The drain job's timeout has reached 120 s while it counts. -/
def drainTimeoutDue (s : State) : Bool :=
  timeoutRuns s && (match s.therm.drain with | some j => decide (120000 ≤ j.timeout) | none => false)

/-- The rise-check window has reached 600 s while it counts. -/
def riseDue (s : State) : Bool :=
  riseRuns s && (match s.therm.rise with | some w => decide (600000 ≤ w.elapsed) | none => false)

/-- A motion's property, false without one. -/
def motionIs (s : State) (f : Motion → Bool) : Bool :=
  match s.rod.motion with
  | some m => f m
  | none => false

/-- The approach time has reached 8 s. -/
def approachDue (s : State) : Bool :=
  approachRuns s && motionIs s (fun m => match m.kind with | .approach _ t => decide (8000 ≤ t) | .move _ _ _ _ => false)

/-- The timer of a reservoir's run-out, or of its stroke in flight, has reached 3 s while its pump runs (R118, R121). -/
def strokeDue (s : State) (r : Reservoir) : Bool :=
  pumpFinal s r && (reached (s.dosing.get r).runOut 3000 || (strokeInFlight s r && reached s.dosing.stroke 3000))

/-- The stall timer of a fill has reached 20 s while the inlet valve is open. -/
def fillStallDue (s : State) : Bool := s.water.holder.isSome && inletFinal s && decide (20000 ≤ s.water.stall)

/-- The stall timer of the diverter has reached 6 s. -/
def diverterStallDue (s : State) : Bool := diverterFinal s && decide (6000 ≤ s.therm.divStall)

/-- The after-run timer has run out. -/
def afterRunDue (s : State) : Bool := afterRunLeft s == some 0

/-- The turbidity that a due hold timer's sample reads: free (log 7). -/
def freeTurbidity (s : State) : Turbidity := (drawTurbidity s).1

/-- The events of the part's own that may be due, in the order in which they are taken (log 3). -/
def dueList (s : State) : List (Option Instr) :=
  [dueIf (brineFillReady s) .brineFillRequest, dueIf (flushWindow s).isSome .flushEntry]
    ++ allInputs.map (debounceDue s)
    ++ [dueIf (s.prog.state == .delayed && ranOut s.prog.delay) .startDelayExpiry,
        dueIf (qualRuns s && decide (3000 ≤ s.prog.doorQual)) .doorQualificationExpiry,
        dueIf (ranOut s.prog.retry) .waterRetryExpiry,
        dueIf (settleDue s) .settleWindowExpiry,
        dueIf (fillStallDue s) .fillStall,
        dueIf (reached s.therm.outTimer 5000) .sensorTemp,
        dueIf (riseDue s) .riseCheckExpiry,
        dueIf (holdRuns s && ranOut s.therm.hold) (.holdTimerExpiry (freeTurbidity s)),
        dueIf (alternateRuns s && ranOut s.therm.alternate) .alternateSwitchExpiry,
        dueIf (diverterStallDue s) .diverterStall,
        dueIf (drainTailDue s) .drainTailExpiry,
        dueIf (drainTimeoutDue s) .drainBlocked,
        dueIf (ranOut s.soft.dissolve) .dissolveExpiry,
        dueIf (flushRuns s && ranOut s.soft.flush) .flushTimerExpiry,
        dueIf (ranOut s.soft.tail) .standAloneTailExpiry,
        dueIf (strokeDue s .detergent) (.strokeTimeout .detergent),
        dueIf (strokeDue s .rinseAid) (.strokeTimeout .rinseAid),
        dueIf (ranOut s.dosing.detergent.watch) (.refillWatchExpiry .detergent),
        dueIf (ranOut s.dosing.rinseAid.watch) (.refillWatchExpiry .rinseAid),
        dueIf (approachDue s) .approachTimeLimit,
        dueIf (settleRuns s && motionIs s (fun m => decide (300 ≤ m.settle))) .settleTimerExpiry,
        dueIf (motionStallRuns s && motionIs s (fun m => decide (300 ≤ m.stallTimer))) .motionStall,
        dueIf (retryWaitRuns s && motionIs s (fun m => m.retry == 0)) .retryWaitExpiry,
        dueIf (dryWaitRuns s && ranOut s.rod.dryWait) .dryWaitExpiry,
        dueIf (airingRuns s && ranOut s.rod.airing) .airingExpiry,
        dueIf (afterRunDue s) .afterRunExpiry,
        dueIf (reached s.sup.overfillOpen 5000) .overfillOpenExpiry,
        dueIf (decide (60000 ≤ s.store.minuteTimer)) .operatingMinute]

/-- The event of the part's own that is due, if any. -/
def due (s : State) : Option Instr := (dueList s).findSome? id

/-! ### One millisecond -/

/-- A timer that counts while `c` holds. -/
def countUp (c : Bool) (t : Nat) : Nat := if c then t + 1 else t

/-- A running-down timer one millisecond later, while `c` holds. -/
def countDown (c : Bool) (t : Option Nat) : Option Nat := if c then t.map (· - 1) else t

/-- A present counting timer one millisecond later, while `c` holds. -/
def countOn (c : Bool) (t : Option Nat) : Option Nat := if c then t.map (· + 1) else t

/-- Candidate timers count while they run (R153, R154). -/
def tickInputs (s : State) : Monitor :=
  allInputs.foldl
    (fun m i => m.set i { s.mon.get i with timer := countUp (candidateRuns s i) (s.mon.get i).timer }) s.mon

/-- The motion's timers (R134, R140, R142, R143). -/
def tickMotion (s : State) (m : Motion) : Motion :=
  { m with
    kind := match m.kind with
      | .approach start t => .approach start (countUp (!m.paused) t)
      | .move slot target slow stop => .move slot target slow stop
    stallTimer := countUp (motionStallRuns s) m.stallTimer
    settle := countUp (m.drive == .settling) m.settle
    retry := if m.drive == .retryWait && !m.paused then m.retry - 1 else m.retry }

/-- A reservoir's timers (R118, R121, R124). -/
def tickReservoir (s : State) (r : Reservoir) (x : ReservoirState) : ReservoirState :=
  { x with watch := countDown true x.watch, runOut := countOn (pumpFinal s r) x.runOut }

/-- The pump of the stroke in flight runs (R118). -/
def strokePumpRuns (s : State) : Bool :=
  match s.dose.plan with
  | some p => pumpFinal s p.reservoir
  | none => false

/-- The leak response's after-run timer. -/
def tickLeak : LeakResponse → LeakResponse
  | .afterRun t => .afterRun (t - 1)
  | .none => .none
  | .active => .active

/-- One millisecond passes: every timer that runs moves on. -/
def advance (s : State) : State where
  pending := s.pending
  clock := s.clock + 1
  samples := s.samples
  prog := { s.prog with
    delay := countDown (s.prog.state == .delayed) s.prog.delay
    doorQual := countUp (qualRuns s) s.prog.doorQual
    retry := countDown true s.prog.retry
    phase := s.prog.phase.map (fun ph => { ph with age := ph.age + 1 }) }
  water := { s.water with
    window := s.water.window.map (fun w => { w with left := w.left - 1 })
    stall := countUp (s.water.holder.isSome && inletFinal s) s.water.stall }
  therm := { s.therm with
    outTimer := countOn true s.therm.outTimer
    rise := s.therm.rise.map (fun w => { w with elapsed := countUp (riseRuns s) w.elapsed })
    hold := countDown (holdRuns s) s.therm.hold
    alternate := countDown (alternateRuns s) s.therm.alternate
    divStall := countUp (diverterFinal s) s.therm.divStall
    drain := s.therm.drain.map (fun j =>
      { j with tail := countUp (tailRuns s) j.tail, timeout := countUp (timeoutRuns s) j.timeout }) }
  soft := { s.soft with
    dissolve := countDown true s.soft.dissolve
    flush := countDown (flushRuns s) s.soft.flush
    tail := countDown true s.soft.tail }
  dose := s.dose
  dosing := { s.dosing with
    detergent := tickReservoir s .detergent s.dosing.detergent
    rinseAid := tickReservoir s .rinseAid s.dosing.rinseAid
    stroke := countOn (strokePumpRuns s) s.dosing.stroke }
  rod := { s.rod with
    motion := s.rod.motion.map (tickMotion s)
    dryWait := countDown (dryWaitRuns s) s.rod.dryWait
    airing := countDown (airingRuns s) s.rod.airing }
  sup := { s.sup with
    leak := tickLeak s.sup.leak
    overfillOpen := countOn true s.sup.overfillOpen }
  mon := tickInputs s
  cal := s.cal
  store := { s.store with minuteTimer := s.store.minuteTimer + 1 }
  notes := s.notes
  ports := s.ports

end Sys2Proof.Machine
end

