-- ==== Sys2Proof/Machine/Dispatch.lean ====
section
/-!
DEFINITION. One arm per command, each a direct call of its meaning.
-/

namespace Sys2Proof.Machine

def exec (i : Instr) (s : State) : Host.Outcome State Fault Refusal :=
  match i with
  | .readStatus p page part => Sys2Proof.Machine.execReadStatus p page part s
  | .readRecord p page part => Sys2Proof.Machine.execReadRecord p page part s
  | .readResults p n => Sys2Proof.Machine.execReadResults p n s
  | .readNotices p => Sys2Proof.Machine.execReadNotices p s
  | .readFaults p => Sys2Proof.Machine.execReadFaults p s
  | .readPosition p part => Sys2Proof.Machine.execReadPosition p part s
  | .queuePhase p f => Sys2Proof.Machine.execQueuePhase p f s
  | .start p delay => Sys2Proof.Machine.execStart p delay s
  | .armRemote p => Sys2Proof.Machine.execArmRemote p s
  | .disarmRemote p => Sys2Proof.Machine.execDisarmRemote p s
  | .remoteStart p => Sys2Proof.Machine.execRemoteStart p s
  | .pause p => Sys2Proof.Machine.execPause p s
  | .resume p => Sys2Proof.Machine.execResume p s
  | .cancel p => Sys2Proof.Machine.execCancel p s
  | .regenerate p => Sys2Proof.Machine.execRegenerate p s
  | .setHardness p h => Sys2Proof.Machine.execSetHardness p h s
  | .setRinseLevel p l => Sys2Proof.Machine.execSetRinseLevel p l s
  | .ackNotices p => Sys2Proof.Machine.execAckNotices p s
  | .setNoticeMask p kinds => Sys2Proof.Machine.execSetNoticeMask p kinds s
  | .enterQuiet p => Sys2Proof.Machine.execEnterQuiet p s
  | .setWakeSources p sources => Sys2Proof.Machine.execSetWakeSources p sources s
  | .takeHold p => Sys2Proof.Machine.execTakeHold p s
  | .releaseHold p => Sys2Proof.Machine.execReleaseHold p s
  | .enterService p => Sys2Proof.Machine.execEnterService p s
  | .leaveService p => Sys2Proof.Machine.execLeaveService p s
  | .overrideOutput p output value => Sys2Proof.Machine.execOverrideOutput p output value s
  | .moveRod p slot => Sys2Proof.Machine.execMoveRod p slot s
  | .referenceRod p => Sys2Proof.Machine.execReferenceRod p s
  | .writeCalibration p item slot value => Sys2Proof.Machine.execWriteCalibration p item slot value s
  | .clearFaults p => Sys2Proof.Machine.execClearFaults p s
  | .storeNow p => Sys2Proof.Machine.execStoreNow p s
  | .restart p mark => Sys2Proof.Machine.execRestart p mark s
  | .byteReceived p b stop => Sys2Proof.Machine.execByteReceived p b stop s
  | .interByteGapExpiry p => Sys2Proof.Machine.execInterByteGapExpiry p s
  | .answerSent p => Sys2Proof.Machine.execAnswerSent p s
  | .powerOn => Sys2Proof.Machine.execPowerOn s
  | .resetPin => Sys2Proof.Machine.execResetPin s
  | .checkpointComplete => Sys2Proof.Machine.execCheckpointComplete s
  | .powerFailWarning => Sys2Proof.Machine.execPowerFailWarning s
  | .operatingMinute => Sys2Proof.Machine.execOperatingMinute s
  | .rawSwitchChange x v => Sys2Proof.Machine.execRawSwitchChange x v s
  | .startDelayExpiry => Sys2Proof.Machine.execStartDelayExpiry s
  | .doorQualificationExpiry => Sys2Proof.Machine.execDoorQualificationExpiry s
  | .waterRetryExpiry => Sys2Proof.Machine.execWaterRetryExpiry s
  | .flowPulse => Sys2Proof.Machine.execFlowPulse s
  | .settleWindowExpiry => Sys2Proof.Machine.execSettleWindowExpiry s
  | .fillStall => Sys2Proof.Machine.execFillStall s
  | .temperatureReading halfDegrees => Sys2Proof.Machine.execTemperatureReading halfDegrees s
  | .sensorTemp => Sys2Proof.Machine.execSensorTemp s
  | .riseCheckExpiry => Sys2Proof.Machine.execRiseCheckExpiry s
  | .holdTimerExpiry turbidity => Sys2Proof.Machine.execHoldTimerExpiry turbidity s
  | .detentPulse => Sys2Proof.Machine.execDetentPulse s
  | .indexPulse => Sys2Proof.Machine.execIndexPulse s
  | .alternateSwitchExpiry => Sys2Proof.Machine.execAlternateSwitchExpiry s
  | .diverterStall => Sys2Proof.Machine.execDiverterStall s
  | .levelSwitchChange water => Sys2Proof.Machine.execLevelSwitchChange water s
  | .drainTailExpiry => Sys2Proof.Machine.execDrainTailExpiry s
  | .drainBlocked => Sys2Proof.Machine.execDrainBlocked s
  | .brineFillRequest => Sys2Proof.Machine.execBrineFillRequest s
  | .dissolveExpiry => Sys2Proof.Machine.execDissolveExpiry s
  | .flushEntry => Sys2Proof.Machine.execFlushEntry s
  | .flushTimerExpiry => Sys2Proof.Machine.execFlushTimerExpiry s
  | .standAloneTailExpiry => Sys2Proof.Machine.execStandAloneTailExpiry s
  | .saltSwitchChange noSalt => Sys2Proof.Machine.execSaltSwitchChange noSalt s
  | .strokePulse r => Sys2Proof.Machine.execStrokePulse r s
  | .strokeTimeout r => Sys2Proof.Machine.execStrokeTimeout r s
  | .lowSwitchChange r low => Sys2Proof.Machine.execLowSwitchChange r low s
  | .capSwitchChange r isOpen => Sys2Proof.Machine.execCapSwitchChange r isOpen s
  | .refillWatchExpiry r => Sys2Proof.Machine.execRefillWatchExpiry r s
  | .encoderEvent a b => Sys2Proof.Machine.execEncoderEvent a b s
  | .homeSwitchChange closed => Sys2Proof.Machine.execHomeSwitchChange closed s
  | .approachTimeLimit => Sys2Proof.Machine.execApproachTimeLimit s
  | .settleTimerExpiry => Sys2Proof.Machine.execSettleTimerExpiry s
  | .motionStall => Sys2Proof.Machine.execMotionStall s
  | .retryWaitExpiry => Sys2Proof.Machine.execRetryWaitExpiry s
  | .dryWaitExpiry => Sys2Proof.Machine.execDryWaitExpiry s
  | .airingExpiry => Sys2Proof.Machine.execAiringExpiry s
  | .doorSwitchChange closed => Sys2Proof.Machine.execDoorSwitchChange closed s
  | .leakOnset => Sys2Proof.Machine.execLeakOnset s
  | .leakEnd => Sys2Proof.Machine.execLeakEnd s
  | .afterRunExpiry => Sys2Proof.Machine.execAfterRunExpiry s
  | .overfillOnset => Sys2Proof.Machine.execOverfillOnset s
  | .overfillSwitchOpen => Sys2Proof.Machine.execOverfillSwitchOpen s
  | .overfillOpenExpiry => Sys2Proof.Machine.execOverfillOpenExpiry s
  | .inhibitAssertion => Sys2Proof.Machine.execInhibitAssertion s
  | .inhibitRelease => Sys2Proof.Machine.execInhibitRelease s
  | .wakeKeyPress => Sys2Proof.Machine.execWakeKeyPress s
  | .servicePresentChange present => Sys2Proof.Machine.execServicePresentChange present s
  | .debouncedStateSilentUpdate x v => Sys2Proof.Machine.execDebouncedStateSilentUpdate x v s

end Sys2Proof.Machine
end

