-- ==== Sys2Proof/Machine/Idling.lean ====
section
/-!
DEFINITION. The step on an empty queue (log 1).
-/

namespace Sys2Proof.Machine

/-- A hold timer's expiry that is due carries a free reading, which is then drawn: the next one is another (log 7). -/
def drawFor (c : Instr) (s : State) : State :=
  match c with
  | .holdTimerExpiry _ => { s with samples := s.samples + 1 }
  | _ => s

/-- With no command waiting (DESIGN CHOICE, log 1): the part's own event that is due, in place of a command; with none
due, one millisecond passes. -/
def idle (s : State) : Host.Outcome State Fault Refusal :=
  match due s with
  | some c => exec c (drawFor c s)
  | none => .next (advance s)

end Sys2Proof.Machine
end

