-- ==== Sys2Proof/Safety.lean ====
section
/-!
DEFINITION. The terms that claims about the D41 use: which commands are client requests and when one reaches its owner, what
a valid phase record is, and the properties that every run keeps.
-/

namespace Sys2Proof.Machine

/-! ### Client requests (spec/11 R199 to R201) -/

/-- The port and the permission of a command that is a client request (Table 11-3); none for an event. -/
def requestOf (c : Instr) : Option (Port × Permission) :=
  match c with
  | .readStatus p _ _ | .readRecord p _ _ | .readResults p _ | .readNotices p | .readFaults p
  | .readPosition p _ => some (p, .read)
  | .cancel p | .ackNotices p | .setNoticeMask p _ => some (p, .all)
  | .remoteStart p => some (p, .linkOnly)
  | .queuePhase p _ | .start p _ | .armRemote p | .disarmRemote p | .pause p | .resume p | .regenerate p
  | .setHardness p _ | .setRinseLevel p _ | .enterQuiet p | .setWakeSources p _
  | .storeNow p => some (p, .panelService)
  | .takeHold p | .releaseHold p | .enterService p | .leaveService p | .overrideOutput p _ _ | .moveRod p _
  | .referenceRod p | .writeCalibration p _ _ _ | .clearFaults p | .restart p _ => some (p, .serviceOnly)
  | .byteReceived _ _ _ | .interByteGapExpiry _ | .answerSent _ | .powerOn | .resetPin | .checkpointComplete
  | .powerFailWarning | .operatingMinute | .rawSwitchChange _ _ | .startDelayExpiry | .doorQualificationExpiry
  | .waterRetryExpiry | .flowPulse | .settleWindowExpiry | .fillStall | .temperatureReading _ | .sensorTemp
  | .riseCheckExpiry | .holdTimerExpiry _ | .detentPulse | .indexPulse | .alternateSwitchExpiry | .diverterStall
  | .levelSwitchChange _ | .drainTailExpiry | .drainBlocked | .brineFillRequest | .dissolveExpiry | .flushEntry
  | .flushTimerExpiry | .standAloneTailExpiry | .saltSwitchChange _ | .strokePulse _ | .strokeTimeout _
  | .lowSwitchChange _ _ | .capSwitchChange _ _ | .refillWatchExpiry _ | .encoderEvent _ _ | .homeSwitchChange _
  | .approachTimeLimit | .settleTimerExpiry | .motionStall | .retryWaitExpiry | .dryWaitExpiry | .airingExpiry
  | .doorSwitchChange _ | .leakOnset | .leakEnd | .afterRunExpiry | .overfillOnset | .overfillSwitchOpen
  | .overfillOpenExpiry | .inhibitAssertion | .inhibitRelease | .wakeKeyPress | .servicePresentChange _
  | .debouncedStateSilentUpdate _ _ => none

/-- An acting request of the panel or link port meets the service hold (R199 check 4). -/
def holdBars (p : Port) (perm : Permission) (s : State) : Prop :=
  perm.acting = true ∧ s.ports.hold = true ∧ p ≠ .service

/-- A request reaches its owner with no wake before it: the port is permitted, the hold does not bar it, and the part
is not in QUIET unless the request only reads (R199, R168). -/
def reaches (p : Port) (perm : Permission) (s : State) : Prop :=
  perm.allows p = true ∧ ¬ holdBars p perm s ∧ (perm.acting = true → s.sup.mode ≠ .quiet)

/-! ### The requests of the line (spec/11 Table 11-4, Table 11-6) -/

/-- The payload length of each request of Table 11-4 but QUEUE PHASE, by its code. -/
def payloadLengths : List (Byte × Nat) :=
  [(0x01, 2), (0x02, 2), (0x03, 4), (0x04, 0), (0x05, 0), (0x06, 1), (0x11, 2), (0x12, 0), (0x13, 0), (0x14, 0),
   (0x15, 0), (0x16, 0), (0x17, 0), (0x20, 0), (0x21, 1), (0x22, 1), (0x28, 0), (0x29, 3), (0x30, 0), (0x31, 1),
   (0x40, 0), (0x41, 0), (0x42, 0), (0x43, 0), (0x44, 2), (0x45, 1), (0x46, 0), (0x50, 6), (0x51, 0), (0x52, 0),
   (0x53, 1)]

/-- A set of bits as a byte, bit 0 first. -/
def bitsByte (bits : List Bool) : Byte := bits.foldr (fun b x => (x <<< 1) ||| (if b then 1 else 0)) 0

/-- An optional field of one byte, and one of two bytes, low byte first; an absent field is not sent. -/
def field1 (x : Option Byte) : List Byte := x.toList

def field2 (x : Option Half) : List Byte :=
  match x with
  | some v => [BitVec.setWidth 8 v, BitVec.setWidth 8 (v >>> 8)]
  | none => []

/-- The payload of QUEUE PHASE that carries these fields (Table 11-6), the ignored bits 0. -/
def phasePayload (f : PhaseFields) : List Byte :=
  [f.tag, f.kind,
    bitsByte [f.fillVolume.isSome, f.heatTarget.isSome, f.holdTime.isSome, f.zones.isSome, f.pumpLevel.isSome,
      f.openSlot.isSome, f.airing.isSome],
    bitsByte [f.detergent, f.rinseAid, f.soilSample, f.regenWindow]] ++
  field2 f.fillVolume ++ field1 f.heatTarget ++ field2 f.holdTime ++ field1 f.zones ++ field1 f.pumpLevel ++
  field1 f.openSlot ++ field2 f.airing

/-! ### Phase records (spec/01 R2, check 2) -/

/-- The fields of a wet record are present, those of a DRY record absent, and the unclamped ones in range. -/
def validWet (f : PhaseFields) : Prop :=
  (∃ v, f.fillVolume = some v ∧ 1000 ≤ v.toNat ∧ v.toNat ≤ 8000) ∧ f.holdTime ≠ none ∧
    (∃ z, f.zones = some z ∧ z.toNat ≤ 3) ∧ (∃ l, f.pumpLevel = some l ∧ 1 ≤ l.toNat ∧ l.toNat ≤ 4) ∧
    f.openSlot = none ∧ f.airing = none

/-- The fields of a DRY record are present, those of a wet record absent, and the open slot is 1..7. -/
def validDry (f : PhaseFields) : Prop :=
  f.fillVolume = none ∧ f.heatTarget = none ∧ f.holdTime ≠ none ∧ f.zones = none ∧ f.pumpLevel = none ∧
    (∃ o, f.openSlot = some o ∧ 1 ≤ o.toNat ∧ o.toNat ≤ 7) ∧ f.airing ≠ none

/-- No flag stands on a wrong kind: detergent on MAIN, rinse aid on FINAL, soil sample on PRE, regeneration window on PRE
or INTER (Table 1-1; kinds are numbered as in Table 11-6). -/
def validFlags (f : PhaseFields) : Prop :=
  (f.detergent = true → f.kind = 1) ∧ (f.rinseAid = true → f.kind = 3) ∧ (f.soilSample = true → f.kind = 0) ∧
    (f.regenWindow = true → f.kind = 0 ∨ f.kind = 2)

/-- The contents of a record are valid. -/
def validPhase (f : PhaseFields) : Prop :=
  f.kind.toNat ≤ 4 ∧ validFlags f ∧ (if f.kind = 4 then validDry f else validWet f)

/-! ### Bounds of the notice and fault unit (spec/10 R186, R192, R194, R195) -/

/-- Every count of a set is at most 15. -/
def NoticeSet.sound (n : NoticeSet) : Prop := ∀ k : Fin 18, n.counts[k] ≤ 15

/-- The sequence numbers of the records run consecutively up to the one before `next` (R195). -/
def consecutive (ring : List ResultRecord) (next : Word32) : Prop :=
  ∀ i (h : i < ring.length), (ring[i]).sequence = next - BitVec.ofNat 32 (ring.length - i)

/-- The unit's lists and counts within their bounds. -/
def Notes.sound (n : Notes) : Prop :=
  n.panel.sound ∧ n.link.sound ∧ n.service.sound ∧ n.log.length ≤ 3 ∧ n.ring.length ≤ 16 ∧
    consecutive n.ring n.next

/-- An image's part of it: a log of at most 3 records (R192). -/
def logSound (x : Option Image) : Prop := ∀ img, x = some img → img.faultLog.length ≤ 3

/-- The notices, faults and results of the state are within their bounds. -/
def notesSound (s : State) : Prop := s.notes.sound ∧ logSound s.store.stored ∧ logSound s.store.writing

/-! ### The phase queue (spec/01 R4) -/

/-- At most 8 records, a DRY record last. -/
def queueSound (s : State) : Prop :=
  s.prog.queue.length ≤ 8 ∧ ∀ r ∈ s.prog.queue.dropLast, r.kind ≠ .dry

/-! ### The appliance record (spec/09 R175, R182, spec/04 R77, spec/05 R98, R100, spec/06 R114, R122) -/

/-- Every setting and calibration lies in its range of Table 9-2, and the relations of R100 and R114 hold. -/
def Settings.sound (c : Settings) : Prop :=
  c.hardness ≤ 70 ∧ c.rinseLevel ≤ 6 ∧
    (∀ item slot lo hi, slot ≤ 7 → calRange item slot = some (lo, hi) →
      lo ≤ calValue c item slot ∧ calValue c item slot ≤ hi) ∧
    c.t1 < c.t2 ∧ c.t2 < c.t3 ∧ c.dminD ≤ c.dmaxD ∧ c.dminR ≤ c.dmaxR ∧ c.lowMarkD < c.nominalD ∧
    c.lowMarkR < c.nominalR

/-- The values kept with those settings: C, the two accounts, the two carries. -/
def valuesSound (c : Settings) (cap accountD accountR carryD carryR : Nat) : Prop :=
  cap ≤ c.cfull ∧ accountD ≤ c.nominalD * 1000 ∧ accountR ≤ c.nominalR * 1000 ∧ carryD < c.vsD ∧ carryR < c.vsR

/-- An image's items are in range and keep their relations (R182). -/
def imageSound (x : Option Image) : Prop :=
  ∀ img, x = some img → img.settings.sound ∧
    valuesSound img.settings img.c img.accountD img.accountR img.carryD img.carryR

/-- The live items, the stored image and the image in flight are sound. -/
def recordSound (s : State) : Prop :=
  s.cal.sound ∧
    valuesSound s.cal s.soft.c s.dosing.detergent.account s.dosing.rinseAid.account s.dose.carryD s.dose.carryR ∧
    imageSound s.store.stored ∧ imageSound s.store.writing

/-! ### Fill records (spec/02 R32 to R35) -/

/-- V is the volume of the pulses counted, and it is split exactly into V_soft and V_hard. -/
def FillRecord.exact (r : FillRecord) : Prop :=
  r.v = fillVolume r.target r.q r.p ∧ r.p ≤ 65535 ∧ r.vSoft + r.vHard = r.v

/-- The current record, the one kept apart by a window, and the fill parts of the result ring are exact. -/
def fillsExact (s : State) : Prop :=
  (∀ r, s.water.record = some r → r.exact) ∧
    (∀ w r, s.water.window = some w → w.kept = some r → r.exact) ∧
    (∀ x ∈ s.notes.ring, ∀ f, x.fill = some f → f.vSoft + f.vHard = f.v)

/-! ### Dose plans and their strokes (spec/06 R115, R119, R121) -/

/-- A dose part of a result accounts for every planned stroke (R119). -/
def DosePart.complete (d : DosePart) : Prop := d.delivered + d.shortfall + d.withdrawn = d.planned

/-- Delivered, shortfall and withdrawn strokes, with the one in flight, never exceed the planned ones. A stroke is in flight
only in DOSING, before the end of the stage is reported. A plan stands only while a phase runs, and outside DOSING every
stroke of it is counted; the dose parts of the result ring account for every stroke. -/
def strokesCounted (s : State) : Prop :=
  (∀ p, s.dose.plan = some p →
    p.delivered + p.shortfall + p.withdrawn + (if s.dosing.stroke = none then 0 else 1) ≤ p.planned ∧
    ∃ r ph, runningPhase s = some (r, ph) ∧ (p.delivered + p.shortfall + p.withdrawn = p.planned ∨
      (ph.stage = .dosing ∧ ph.stageEnd = none))) ∧
    (s.dosing.stroke ≠ none → s.dose.plan ≠ none ∧
      ∃ r ph, runningPhase s = some (r, ph) ∧ ph.stage = .dosing ∧ ph.stageEnd = none) ∧
    (∀ x ∈ s.notes.ring, (∀ d, x.doseD = some d → d.complete) ∧ (∀ d, x.doseR = some d → d.complete))

/-! ### SERVICE (spec/08 R164, R165, spec/11 R201) -/

/-- Overrides only in SERVICE; SERVICE only under the hold and with no program RUNNING or DELAYED; the hold only while the
service-present line has been read present; the line presents absent while it is unread (spec/08 R154, Table 8-2). -/
def serviceConfined (s : State) : Prop :=
  (s.sup.mode ≠ .service → s.sup.overrides = Overrides.none) ∧
    (s.sup.mode = .service → s.ports.hold = true ∧ s.prog.state ≠ .running ∧ s.prog.state ≠ .delayed) ∧
    (s.ports.hold = true → s.mon.servicePresent.read = true ∧ s.mon.servicePresent.state = true) ∧
    (s.mon.servicePresent.read = false → s.mon.servicePresent.state = false)

/-- A motion that drives the motor outward, or may again, is the DRY motion of an OPENING that has not ended, or a SERVICE
motion in SERVICE (spec/07 R139). -/
def outwardConfined (s : State) : Prop :=
  ∀ m, s.rod.motion = some m → m.direction = .outward → m.drive ≠ .settling →
    (m.client = .dry ∧ ∃ r ph, runningPhase s = some (r, ph) ∧ ph.stage = .opening ∧ ph.stageEnd = none) ∨
      (m.client = .service ∧ s.sup.mode = .service)

/-! ### Leak and inhibit (spec/08 R159, R161, spec/04 R90, R91, spec/10 R187) -/

/-- The leak response is ACTIVE exactly while a leak is present, the conditions follow the two inputs, and while one of
them stands the softener is in none of BRINE_FILL, FLUSH and RESIN_RINSE. An unread input presents its condition absent. -/
def leakTracked (s : State) : Prop :=
  (s.sup.leak = .active ↔ leakPresent s = true) ∧ s.notes.conditions.leak = leakPresent s ∧
    s.notes.conditions.inhibit = inhibited s ∧
    (leakPresent s = true ∨ inhibited s = true →
      s.soft.state ≠ .brineFill ∧ s.soft.state ≠ .flush ∧ s.soft.state ≠ .resinRinse) ∧
    (s.mon.leak.read = false → leakPresent s = false) ∧ (s.mon.inhibit.read = false → inhibited s = false)

/-! ### A safe run -/

/-- Every property above. -/
def safe (s : State) : Prop :=
  notesSound s ∧ queueSound s ∧ recordSound s ∧ fillsExact s ∧ strokesCounted s ∧ serviceConfined s ∧
    outwardConfined s ∧ leakTracked s

end Sys2Proof.Machine
end

