-- ==== Sys2Proof/Certificates/Slice0/Obligations.lean ====
section
/-!
DEFINITION. The statements about the D41 that the provers are asked for, in the order of spec/. Each is a proposition of
its own; where its text says "the model's", the log entry it names is what it rests on.
-/

open Sys2Proof Sys2Proof.Machine

/-! ### The queue of commands and the client ports (spec/11, spec/08 R168) -/

/-- One step takes the command at the front of the queue and runs it on the state with the queue's rest (the
model's, log 1). -/
def Obligations.StepRunsFrontCommand : Prop :=
  ∀ (c : Instr) (s : State), step { s with pending := c :: s.pending } = exec c s

/-- On an empty queue with no event of the part's own due, one millisecond passes: the clock moves on, the minute
timer and a phase's age count, and no register, record, notice or port changes (the model's tick, logs 1 and 24). -/
def Obligations.IdleStepLetsAMillisecondPass : Prop :=
  ∀ s : State, s.pending = [] → due s = none →
    ∃ t, step s = .next t ∧ t.clock = s.clock + 1 ∧ t.store.minuteTimer = s.store.minuteTimer + 1 ∧
      t.prog.phase.map (·.age) = s.prog.phase.map (·.age + 1) ∧ t.pending = [] ∧ t.samples = s.samples ∧
      t.prog.state = s.prog.state ∧ t.prog.queue = s.prog.queue ∧ t.prog.holds = s.prog.holds ∧
      t.water.record = s.water.record ∧ t.water.holder = s.water.holder ∧ t.soft.c = s.soft.c ∧
      t.soft.state = s.soft.state ∧ t.dose = s.dose ∧
      (∀ r, (t.dosing.get r).account = (s.dosing.get r).account ∧ (t.dosing.get r).known = (s.dosing.get r).known) ∧
      t.therm.raw = s.therm.raw ∧ t.therm.working = s.therm.working ∧ t.therm.latch = s.therm.latch ∧
      t.therm.regulator = s.therm.regulator ∧ t.therm.position = s.therm.position ∧ t.therm.wanted = s.therm.wanted ∧
      (∀ i, (t.mon.get i).raw = (s.mon.get i).raw ∧ (t.mon.get i).state = (s.mon.get i).state ∧
        (t.mon.get i).read = (s.mon.get i).read) ∧ t.store.stored = s.store.stored ∧ t.store.minutes = s.store.minutes ∧
      t.rod.count = s.rod.count ∧ t.sup.mode = s.sup.mode ∧ t.sup.overrides = s.sup.overrides ∧ t.cal = s.cal ∧
      t.store.writing = s.store.writing ∧ t.notes = s.notes ∧ t.ports = s.ports

/-- A request on a port that is not permitted it is answered DENIED, in every mode, and changes nothing else (R199
check 3, R200). An acting request of the panel or link port under the service hold is answered HELD and changes
nothing else (R199 check 4, R201). In QUIET an acting request on a link port that is no wake source is refused with
MODE, and the part stays in QUIET (R168). -/
def Obligations.BarredRequestsOnlyAnswer : Prop :=
  (∀ (c : Instr) (p : Port) (perm : Permission) (s : State), requestOf c = some (p, perm) → perm.allows p = false →
    exec c s = .next (answer p ⟨.denied, false, 0, []⟩ s)) ∧
  (∀ (c : Instr) (p : Port) (perm : Permission) (s : State), requestOf c = some (p, perm) → perm.allows p = true →
    holdBars p perm s → exec c s = .next (answer p ⟨.held, false, 0, []⟩ s)) ∧
  (∀ (c : Instr) (perm : Permission) (s : State), requestOf c = some (.link, perm) → perm.allows .link = true →
    perm.acting = true → s.ports.hold = false → s.sup.mode = .quiet → s.sup.wake.link = false →
    exec c s = .next (answer .link ⟨.refused .mode, false, 0, []⟩ s))

/-- In QUIET an acting request that reaches its owner wakes the part first: it acts as it would on the state in
which the mode is NORMAL, the cause is recorded, WOKE is raised on every port and the outputs are formed anew (R168,
R170). -/
def Obligations.QuietRequestWakesFirst : Prop :=
  ∀ (c : Instr) (p : Port) (perm : Permission) (s : State), requestOf c = some (p, perm) → perm.allows p = true →
    perm.acting = true → ¬ holdBars p perm s → s.sup.mode = .quiet → (p = .link → s.sup.wake.link = true) →
    exec c s =
      exec c (finish (raiseAll .woke
        { s with sup := { s.sup with mode := .normal, lastWake := some (requestCause p) } }))

/-- The READ requests are served on every port, under the hold and in QUIET, and change nothing but the port's
answers. READ STATUS page 0 answers with the 21 bytes of Table 11-5 (bits 0 to 6 of byte 3 are 0
with no phase: the model's, log 25); a page above 9, and a part of page 0 beyond the first, is
refused with RANGE. READ RECORD page 0 answers with the items of Table 9-1 and the store state (grouped by reservoir, and the
program mark of the program state: the model's reading, logs 25 and 56); a page above 2 is refused with RANGE. READ POSITION begins with the signed position count (R151).
READ FAULTS answers with the log and the standing set, READ RESULTS with the next number and the records of R196, oldest
first, READ NOTICES with the port's own set, the counts of the kinds present, the mask, the attention line and the six
conditions (no byte for the detail of POWER_RETURN: the model's, log 53) (R190, R192, R196, R203). -/
def Obligations.ReadRequestsChangeNothing : Prop :=
  (∀ (p : Port) (page part : Byte) (n : Word32) (s : State),
    (∃ r, exec (.readStatus p page part) s = .next (answer p r s)) ∧
      (9 < page.toNat → exec (.readStatus p page part) s = .next (answer p (Reply.refused .range) s)) ∧
      (part ≠ 0 → exec (.readStatus p 0 part) s = .next (answer p (Reply.refused .range) s)) ∧
      (∃ r, exec (.readRecord p page part) s = .next (answer p r s)) ∧
      (2 < page.toNat → exec (.readRecord p page part) s = .next (answer p (Reply.refused .range) s)) ∧
      exec (.readRecord p 0 0) s = .next (answer p ⟨.ok, false, 0,
        b4 s.soft.c ++ flags [s.soft.charged] ++ b2 s.soft.regenCount ++
        b4 s.dosing.detergent.account ++ flags [s.dosing.detergent.known] ++
        b4 s.dosing.rinseAid.account ++ flags [s.dosing.rinseAid.known] ++
        b2 s.dose.carryD ++ b2 s.dose.carryR ++
        flags [decide (s.prog.state = .running ∨ s.prog.state = .cancelling ∨ s.prog.state = .faulted)] ++
        b4 (s.notes.next - 1).toNat ++ b4 s.store.minutes ++
        flags [s.store.writing.isSome, s.store.again] ++ [if s.store.outcome = .loaded then 0 else 1]⟩ s) ∧
      (∃ r, exec (.readPosition p part) s = .next (answer p r s)) ∧
      (∃ bytes, exec (.readPosition p 0) s = .next (answer p ⟨.ok, false, 0, bytes⟩ s) ∧
        bytes.take 2 = i2 s.rod.count) ∧
      exec (.readFaults p) s =
        .next (answer p ⟨.ok, false, 0, logBytes s.notes.log ++ b2 (bitsNat s.notes.standing.bits)⟩ s) ∧
      exec (.readResults p n) s =
        .next (answer p ⟨.ok, (selectResults s.notes.ring n).2, (selectResults s.notes.ring n).1.length,
          b4 s.notes.next.toNat ++ (selectResults s.notes.ring n).1.flatMap resultBytes⟩ s) ∧
      exec (.readNotices p) s = .next (answer p ⟨.ok, false, 0,
        set3 ((s.notes.get p).counts.toList.map (fun c => c != 0)) ++
        ((s.notes.get p).counts.toList.filter (fun c => c != 0)).map (BitVec.ofNat 8) ++
        set3 ((List.range 18).map (fun i => (s.notes.get p).mask.getLsbD i)) ++
        flags [attention s p, s.notes.conditions.leak, s.notes.conditions.overfill, s.notes.conditions.inhibit,
          s.notes.conditions.saltEmpty, s.notes.conditions.resLowD, s.notes.conditions.resLowR]⟩ s)) ∧
  (∀ (p : Port) (s : State), ∃ bytes, exec (.readStatus p 0 0) s = .next (answer p ⟨.ok, false, 0, bytes⟩ s) ∧
    bytes.length = 21 ∧
      bytes.getD 0 0 = (match s.prog.state with
        | .idle => 0 | .ready => 1 | .delayed => 2 | .running => 3 | .cancelling => 4 | .faulted => 5) ∧
      bytes.getD 1 0 = BitVec.ofNat 8 s.prog.queue.length ∧
      (runningPhase s = none → bytes.getD 2 0 = 0xFF ∧ bytes.getD 3 0 = 0x80 ∧ bytes.getD 4 0 = 0xFF) ∧
      (∀ r ph, runningPhase s = some (r, ph) → bytes.getD 2 0 = r.tag ∧
        bytes.getD 3 0 = (match r.kind with | .pre => 0 | .main => 1 | .inter => 2 | .finalRinse => 3 | .dry => 4) ∧
        bytes.getD 4 0 = (match ph.stage with
          | .filling => 0 | .dosing => 1 | .heating => 2 | .holding => 3 | .draining => 4 | .dryWait => 5
          | .opening => 6 | .airing => 7 | .retracting => 8)) ∧
      bytes.getD 5 0 = bitsByte [s.prog.holds.request, s.prog.holds.door, s.prog.holds.water, s.prog.holds.inlet,
        s.prog.holds.regen, s.prog.holds.inhibit] ∧
      bytes.getD 6 0 = bitsByte [s.prog.arm, s.prog.tankWet, decide (s.prog.soilClass.val % 2 = 1),
        decide (2 ≤ s.prog.soilClass.val)] ∧
      (s.prog.state ≠ .delayed ∨ s.prog.delay = none → bytes.getD 7 0 = 0 ∧ bytes.getD 8 0 = 0) ∧
      (∀ ms, s.prog.state = .delayed → s.prog.delay = some ms →
        bytes.getD 7 0 = BitVec.ofNat 8 ((ms + 59999) / 60000) ∧
        bytes.getD 8 0 = BitVec.ofNat 8 ((ms + 59999) / 60000 / 256)) ∧
      bytes.getD 9 0 = bitsByte [decide (s.sup.mode = .service), decide (s.sup.mode = .quiet), s.ports.hold,
        decide (s.sup.leak = .active), decide (s.sup.leak ≠ .none ∧ s.sup.leak ≠ .active), inhibited s,
        s.sup.overfill] ∧
      (s.therm.working = none → bytes.getD 10 0 = 0xFF) ∧
      (∀ w, s.therm.working = some w → bytes.getD 10 0 = BitVec.ofNat 8 w) ∧
      bytes.getD 11 0 = (match s.soft.state with
        | .idle => 0 | .pending => 1 | .brineFill => 2 | .dissolve => 3 | .waitWindow => 4 | .flush => 5
        | .resinRinse => 6) ∧
      (bytes.drop 12).take 4 = b4 s.soft.c ∧
      bytes.getD 16 0 = bitsByte [s.notes.standing.sensorTemp, s.notes.standing.heater, s.notes.standing.diverterStall,
        s.notes.standing.encoder, s.notes.standing.referenceFail, s.notes.standing.rodStuck, s.notes.standing.pumpD,
        s.notes.standing.pumpR] ∧
      bytes.getD 17 0 = bitsByte [s.notes.standing.soilSensor, s.notes.standing.inletLeak] ∧
      bytes.getD 18 0 = bitsByte [doorClosed s, rodHome s, s.rod.referenced, s.rod.motion.isSome] ∧
      (bytes.drop 19).take 2 = i2 s.rod.count)

/-- READ RESULTS for a number n, over a ring whose sequence numbers run consecutively (R196), with d the distance of
n from the oldest number held: from an empty ring none; with d below the number held, record n and, when it is held,
record n + 1; with d at least the number held and below 2,147,483,648, none; otherwise the two oldest, with GAP. The
answer carries the next sequence number, and nothing but the port's answers changes. -/
def Obligations.ReadResultsFindsRecords : Prop :=
  ∀ (p : Port) (n : Word32) (s : State), s.notes.ring.length ≤ 16 → consecutive s.notes.ring s.notes.next →
    ∃ records gap,
      exec (.readResults p n) s = .next (answer p
        ⟨.ok, gap, records.length, b4 s.notes.next.toNat ++ records.flatMap resultBytes⟩ s) ∧
      (s.notes.ring = [] → records = [] ∧ gap = false) ∧
      (∀ oldest rest, s.notes.ring = oldest :: rest →
        (∀ h : (n - oldest.sequence).toNat < s.notes.ring.length,
          (s.notes.ring[(n - oldest.sequence).toNat]).sequence = n ∧ gap = false ∧
          records = s.notes.ring[(n - oldest.sequence).toNat] ::
            (s.notes.ring.drop ((n - oldest.sequence).toNat + 1)).take 1) ∧
        (s.notes.ring.length ≤ (n - oldest.sequence).toNat → (n - oldest.sequence).toNat < 2147483648 →
          records = [] ∧ gap = false) ∧
        (2147483648 ≤ (n - oldest.sequence).toNat → records = s.notes.ring.take 2 ∧ gap = true))

/-- The receiver takes a byte (R197): one without its stop bit returns it to HUNT; in HUNT only C3H is a lead byte;
in LENGTH only 1 to 48 is a length; in BODY the byte is kept and the last one leads to CHECK; in CHECK a wrong byte
discards the frame. In each of these cases nothing else of the part changes. -/
def Obligations.ReceiverFollowsTheFrame : Prop :=
  ∀ (p : Port) (b : Byte) (s : State),
    exec (.byteReceived p b false) s = .next (onPort p (fun x => { x with receiver := .hunt }) s) ∧
      ((s.ports.get p).receiver = .hunt → exec (.byteReceived p b true) s =
        .next (onPort p (fun x => { x with receiver := if b = 0xC3 then .length else .hunt }) s)) ∧
      ((s.ports.get p).receiver = .length → exec (.byteReceived p b true) s =
        .next (onPort p (fun x =>
          { x with receiver := if b = 0 ∨ 48 < b.toNat then .hunt else .body b.toNat [] }) s)) ∧
      (∀ len kept, (s.ports.get p).receiver = .body len kept → exec (.byteReceived p b true) s =
        .next (onPort p (fun x =>
          { x with receiver := if kept.length + 1 = len then .check len (kept ++ [b]) else .body len (kept ++ [b]) })
          s)) ∧
      (∀ len kept, (s.ports.get p).receiver = .check len kept →
        b ≠ -(kept.foldl (· + ·) (BitVec.ofNat 8 len)) → exec (.byteReceived p b true) s =
          .next (onPort p (fun x => { x with receiver := .hunt }) s)) ∧
      exec (.interByteGapExpiry p) s = .next (onPort p (fun x => { x with receiver := .hunt }) s)

/-- A frame whose check byte matches is complete (R198): it waits in the empty buffer while an answer is being sent;
with the buffer full it is discarded and LOST set; otherwise it is taken at once. At the end of an answer a frame that
waits is taken, and only the answers change when none waits; with no answer being sent nothing happens (R198). Where
more than one answer waits, which R198's transmitter does not know, the clauses are the model's (log 5): the next answer
is sent, and a frame goes on waiting until no further one is to be sent. -/
def Obligations.FramesAndAnswersQueue : Prop :=
  (∀ (p : Port) (b : Byte) (len : Nat) (kept : List Byte) (s : State),
    (s.ports.get p).receiver = .check len kept → b = -(kept.foldl (· + ·) (BitVec.ofNat 8 len)) →
      ((s.ports.get p).buffer ≠ none → (s.ports.get p).answers ≠ [] → exec (.byteReceived p b true) s =
        .next (onPort p (fun x => { x with receiver := .hunt, lost := true }) s)) ∧
      ((s.ports.get p).buffer = none → (s.ports.get p).answers ≠ [] → exec (.byteReceived p b true) s =
        .next (onPort p (fun x => { x with receiver := .hunt, buffer := some kept }) s)) ∧
      ((s.ports.get p).buffer = none → (s.ports.get p).answers = [] → exec (.byteReceived p b true) s =
        .next (takeFrame p kept (onPort p (fun x => { x with receiver := .hunt, buffer := none }) s)))) ∧
  (∀ (p : Port) (s : State),
    ((s.ports.get p).answers = [] → exec (.answerSent p) s = .next s) ∧
      (∀ a rest, (s.ports.get p).answers = a :: rest → rest ≠ [] ∨ (s.ports.get p).buffer = none →
        exec (.answerSent p) s = .next (onPort p (fun x => { x with answers := rest }) s)) ∧
      (∀ a body, (s.ports.get p).answers = [a] → (s.ports.get p).buffer = some body →
        exec (.answerSent p) s =
          .next (takeFrame p body (onPort p (fun x => { x with answers := [], buffer := none }) s))))

/-- A frame's body is its request code and payload, low bytes first (R199 checks 1 and 2, R202): a code that is none of
Table 11-4 is answered UNKNOWN, a payload that has not the table's length FORMAT, and every other body is taken as the
command it spells. QUEUE PHASE carries its record as R204 gives it: the fields that its presence bytes mark, in the
order of Table 11-6, and FORMAT when the length is not 4 plus their sizes. A frame received byte by byte delivers its
body (R197, Table 11-1). -/
def Obligations.FrameSpellsItsCommand : Prop :=
  (∀ (p : Port) (a b c d item slot : Byte) (s : State),
    .next (takeFrame p [0x01, a, b] s) = exec (.readStatus p a b) s ∧
      .next (takeFrame p [0x02, a, b] s) = exec (.readRecord p a b) s ∧
      .next (takeFrame p [0x03, a, b, c, d] s) = exec (.readResults p (d ++ c ++ b ++ a)) s ∧
      .next (takeFrame p [0x04] s) = exec (.readNotices p) s ∧
      .next (takeFrame p [0x05] s) = exec (.readFaults p) s ∧
      .next (takeFrame p [0x06, a] s) = exec (.readPosition p a) s ∧
      .next (takeFrame p [0x11, a, b] s) = exec (.start p (b ++ a)) s ∧
      .next (takeFrame p [0x12] s) = exec (.armRemote p) s ∧
      .next (takeFrame p [0x13] s) = exec (.disarmRemote p) s ∧
      .next (takeFrame p [0x14] s) = exec (.remoteStart p) s ∧
      .next (takeFrame p [0x15] s) = exec (.pause p) s ∧
      .next (takeFrame p [0x16] s) = exec (.resume p) s ∧
      .next (takeFrame p [0x17] s) = exec (.cancel p) s ∧
      .next (takeFrame p [0x20] s) = exec (.regenerate p) s ∧
      .next (takeFrame p [0x21, a] s) = exec (.setHardness p a) s ∧
      .next (takeFrame p [0x22, a] s) = exec (.setRinseLevel p a) s ∧
      .next (takeFrame p [0x28] s) = exec (.ackNotices p) s ∧
      .next (takeFrame p [0x29, a, b, c] s) = exec (.setNoticeMask p (c ++ b ++ a)) s ∧
      .next (takeFrame p [0x30] s) = exec (.enterQuiet p) s ∧
      .next (takeFrame p [0x31, a] s) = exec (.setWakeSources p a) s ∧
      .next (takeFrame p [0x40] s) = exec (.takeHold p) s ∧
      .next (takeFrame p [0x41] s) = exec (.releaseHold p) s ∧
      .next (takeFrame p [0x42] s) = exec (.enterService p) s ∧
      .next (takeFrame p [0x43] s) = exec (.leaveService p) s ∧
      .next (takeFrame p [0x44, a, b] s) = exec (.overrideOutput p a b) s ∧
      .next (takeFrame p [0x45, a] s) = exec (.moveRod p a) s ∧
      .next (takeFrame p [0x46] s) = exec (.referenceRod p) s ∧
      .next (takeFrame p [0x50, item, slot, a, b, c, d] s) =
        exec (.writeCalibration p item slot (d ++ c ++ b ++ a)) s ∧
      .next (takeFrame p [0x51] s) = exec (.clearFaults p) s ∧
      .next (takeFrame p [0x52] s) = exec (.storeNow p) s ∧
      .next (takeFrame p [0x53, a] s) = exec (.restart p a) s) ∧
  (∀ (p : Port) (f : PhaseFields) (s : State),
    .next (takeFrame p (0x10 :: phasePayload f) s) = exec (.queuePhase p f) s) ∧
  (∀ (p : Port) (tag kind a b : Byte) (rest : List Byte) (s : State),
    rest.length ≠ (if a.getLsbD 0 then 2 else 0) + (if a.getLsbD 1 then 1 else 0) + (if a.getLsbD 2 then 2 else 0) +
        (if a.getLsbD 3 then 1 else 0) + (if a.getLsbD 4 then 1 else 0) + (if a.getLsbD 5 then 1 else 0) +
        (if a.getLsbD 6 then 2 else 0) →
      takeFrame p (0x10 :: tag :: kind :: a :: b :: rest) s = answer p ⟨.format, false, 0, []⟩ s) ∧
  (∀ (p : Port) (payload : List Byte) (s : State), payload.length < 4 →
    takeFrame p (0x10 :: payload) s = answer p ⟨.format, false, 0, []⟩ s) ∧
  (∀ (p : Port) (code : Byte) (n : Nat) (payload : List Byte) (s : State),
    (code, n) ∈ payloadLengths → payload.length ≠ n →
      takeFrame p (code :: payload) s = answer p ⟨.format, false, 0, []⟩ s) ∧
  (∀ (p : Port) (code : Byte) (payload : List Byte) (s : State),
    code ≠ 0x10 → code ∉ payloadLengths.map (·.1) →
      takeFrame p (code :: payload) s = answer p ⟨.unknown, false, 0, []⟩ s) ∧
  (∀ (p : Port) (body : List Byte) (s : State), 1 ≤ body.length → body.length ≤ 48 →
    (s.ports.get p).receiver = .hunt → (s.ports.get p).buffer = none → (s.ports.get p).answers = [] →
      (frameOf body).foldl (fun t b => byteReceived p b true t) s = takeFrame p body s)

/-! ### The wash program (spec/01) -/

/-- A phase record is stored exactly when its contents are valid; it is stored as it came, with the heat target held
to 30.0..72.0 °C (half degrees 60..144), the hold time to 3600 s and the airing time to 7200 s, and it counts as
clamped exactly when one of the three was changed (R1, R2 check 2, R3). -/
def Obligations.ValidRecordsAreStoredClamped : Prop :=
  ∀ f : PhaseFields,
    ((checkRecord f).isSome = true ↔ validPhase f) ∧
      ∀ r clamped, checkRecord f = some (r, clamped) →
        r.tag = f.tag ∧ kindOf f.kind = some r.kind ∧ r.fillVolume = f.fillVolume.map (·.toNat) ∧
          r.heatTarget = f.heatTarget.map (fun t => max 60 (min 144 t.toNat)) ∧
          (∀ h, f.holdTime = some h → r.holdTime = min 3600 h.toNat) ∧
          r.zones = f.zones.bind zonesOf ∧ r.pumpLevel = f.pumpLevel.map (·.toNat) ∧
          r.openSlot = f.openSlot.map (·.toNat) ∧ r.airing = f.airing.map (fun a => min 7200 a.toNat) ∧
          r.detergent = f.detergent ∧ r.rinseAid = f.rinseAid ∧ r.soilSample = f.soilSample ∧
          r.regenWindow = f.regenWindow ∧
          (clamped = true ↔ (∃ t, f.heatTarget = some t ∧ (t.toNat < 60 ∨ 144 < t.toNat)) ∨
            (∃ h, f.holdTime = some h ∧ 3600 < h.toNat) ∨ (∃ a, f.airing = some a ∧ 7200 < a.toNat))

/-- QUEUE PHASE checks in the order of R2: STATE, BADPHASE, FULL, BADORDER, each with nothing stored; a record that
passes is appended, IDLE becomes READY, and the answer carries the new number of records (R2, R4). -/
def Obligations.QueuePhaseChecksThenAppends : Prop :=
  ∀ (p : Port) (f : PhaseFields) (s : State), reaches p .panelService s →
    (s.prog.state = .cancelling ∨ s.prog.state = .faulted →
        exec (.queuePhase p f) s = .next (answer p (Reply.refused .state) s)) ∧
      (s.prog.state ≠ .cancelling → s.prog.state ≠ .faulted →
        (¬ validPhase f → exec (.queuePhase p f) s = .next (answer p (Reply.refused .badPhase) s)) ∧
          (validPhase f → 8 ≤ s.prog.queue.length →
            exec (.queuePhase p f) s = .next (answer p (Reply.refused .full) s)) ∧
          (validPhase f → s.prog.queue.length < 8 → (s.prog.queue.getLast?).map (·.kind) = some .dry →
            exec (.queuePhase p f) s = .next (answer p (Reply.refused .badOrder) s)) ∧
          (∀ r clamped, checkRecord f = some (r, clamped) → s.prog.queue.length < 8 →
            (s.prog.queue.getLast?).map (·.kind) ≠ some .dry →
            exec (.queuePhase p f) s =
              .next (answer p
                ⟨if clamped then .clamped else .ok, false, 0, [BitVec.ofNat 8 (s.prog.queue.length + 1)]⟩
                { s with prog :=
                  { s.prog with queue := s.prog.queue ++ [r]
                                state := if s.prog.state = .idle then .ready else s.prog.state } })))

/-- START checks in the order of R7, each refusal with no change: STATE, MODE, DOOR, LEAK, FAULT. A START that is
taken clears the arm, sets soil class 1, and with a delay (held to 1440 min) enters DELAYED with the timer loaded
with the delay's length in ms; with a delay of 0 it enters RUNNING. -/
def Obligations.StartChecksThenStarts : Prop :=
  ∀ (p : Port) (delay : Half) (s : State), reaches p .panelService s →
    (s.prog.state ≠ .ready → exec (.start p delay) s = .next (answer p (Reply.refused .state) s)) ∧
      (s.prog.state = .ready → s.sup.mode ≠ .normal →
        exec (.start p delay) s = .next (answer p (Reply.refused .mode) s)) ∧
      (s.prog.state = .ready → s.sup.mode = .normal → doorClosed s = false →
        exec (.start p delay) s = .next (answer p (Reply.refused .door) s)) ∧
      (s.prog.state = .ready → s.sup.mode = .normal → doorClosed s = true → leakPresent s = true →
        exec (.start p delay) s = .next (answer p (Reply.refused .leak) s)) ∧
      (s.prog.state = .ready → s.sup.mode = .normal → doorClosed s = true → leakPresent s = false →
        s.notes.standing.inletLeak = true ∨ s.notes.standing.rodStuck = true →
        exec (.start p delay) s = .next (answer p (Reply.refused .fault) s)) ∧
      (s.prog.state = .ready → s.sup.mode = .normal → doorClosed s = true → leakPresent s = false →
        s.notes.standing.inletLeak = false → s.notes.standing.rodStuck = false →
        (delay = 0 → exec (.start p delay) s =
          .next (answer p Reply.ok (finish (enterRunning (startCommon s))))) ∧
        (delay ≠ 0 → ∃ t, exec (.start p delay) s =
            .next (answer p (if 1440 < delay.toNat then Reply.clamped else Reply.ok) t) ∧
          t.prog.state = .delayed ∧ t.prog.delay = some (min 1440 delay.toNat * 60000) ∧ t.prog.arm = false ∧
          t.prog.soilClass = 1 ∧ t.prog.queue = s.prog.queue ∧ t.therm.slowCount = 0 ∧ t.soft = s.soft ∧
          t.cal = s.cal ∧ t.sup = s.sup ∧ t.mon = s.mon ∧ t.store = s.store))

/-- ARM REMOTE is refused with STATE outside READY and DELAYED and with DOOR when the door reads open, and sets the
arm otherwise; DISARM REMOTE clears it and answers OK in every program state; nothing else changes (R9). PAUSE and
RESUME are refused with STATE outside RUNNING. In RUNNING, PAUSE adds REQUEST; RESUME removes REQUEST, and with
WATER present also WATER, the retry timer stopped and the stalled fill retried; no other cause is removed (R11). -/
def Obligations.ArmPauseAndResume : Prop :=
  (∀ (p : Port) (s : State), reaches p .panelService s →
    (s.prog.state ≠ .ready → s.prog.state ≠ .delayed →
        exec (.armRemote p) s = .next (answer p (Reply.refused .state) s)) ∧
      (s.prog.state = .ready ∨ s.prog.state = .delayed → doorClosed s = false →
        exec (.armRemote p) s = .next (answer p (Reply.refused .door) s)) ∧
      (s.prog.state = .ready ∨ s.prog.state = .delayed → doorClosed s = true →
        exec (.armRemote p) s = .next (answer p Reply.ok { s with prog := { s.prog with arm := true } })) ∧
      exec (.disarmRemote p) s = .next (answer p Reply.ok { s with prog := { s.prog with arm := false } })) ∧
  (∀ (p : Port) (s : State), reaches p .panelService s →
    (s.prog.state ≠ .running →
        exec (.pause p) s = .next (answer p (Reply.refused .state) s) ∧
        exec (.resume p) s = .next (answer p (Reply.refused .state) s)) ∧
      (s.prog.state = .running → s.prog.phase ≠ none → s.prog.queue ≠ [] →
        exec (.pause p) s = .next (answer p Reply.ok (finish
          { s with prog := { s.prog with holds := { s.prog.holds with request := true } } })) ∧
        (s.prog.holds.water = false →
          exec (.resume p) s = .next (answer p Reply.ok (finish
            { s with prog := { s.prog with holds := { s.prog.holds with request := false } } }))) ∧
        (s.prog.holds.water = true →
          exec (.resume p) s = .next (answer p Reply.ok (finish (retryWash
            { s with prog := { s.prog with
                retry := none
                holds := { s.prog.holds with request := false, water := false } } }))))))

/-- REMOTE START checks in the order of R10, each refusal with no change: STATE, NOTARMED, MODE, LEAK, FAULT; one
that is taken enters RUNNING, with no check of the door. What a taken START or REMOTE START sets (R7, R10, spec/03
R58): soil class 1, slow count 0, the arm clear, and an approach asked for when the rod is unreferenced. What entering
RUNNING does, by either request or by the start delay's expiry (R5, R7, R8, R19, R22, R26): the arm is clear, the delay
discarded and a stand-alone tail cut short; the head record begins with a fresh phase, a wet one in FILLING with its
wash fill asked for, a DRY one in DRY_WAIT with its timer loaded; and its hold-cause set holds the causes whose
condition stands: DOOR in a wet phase with the rod not home or the door open (the open door: log 37), INHIBIT, REGEN
while a stand-alone window flushes or rinses, INLET when the fill has to wait. A fill held under REGEN takes a grantable
inlet like any other, so that the rinse after FLUSH waits behind it: the model's reading of R19 and R37 over the caution of
R26 and spec/04 4.11, log 54. -/
def Obligations.RemoteStartNeedsTheArm : Prop :=
  (∀ s : State, reaches .link .linkOnly s →
    (s.prog.state ≠ .ready → s.prog.state ≠ .delayed →
        exec (.remoteStart .link) s = .next (answer .link (Reply.refused .state) s)) ∧
      (s.prog.state = .ready ∨ s.prog.state = .delayed →
        (s.prog.arm = false → exec (.remoteStart .link) s = .next (answer .link (Reply.refused .notArmed) s)) ∧
        (s.prog.arm = true → s.sup.mode ≠ .normal →
          exec (.remoteStart .link) s = .next (answer .link (Reply.refused .mode) s)) ∧
        (s.prog.arm = true → s.sup.mode = .normal → leakPresent s = true →
          exec (.remoteStart .link) s = .next (answer .link (Reply.refused .leak) s)) ∧
        (s.prog.arm = true → s.sup.mode = .normal → leakPresent s = false →
          s.notes.standing.inletLeak = true ∨ s.notes.standing.rodStuck = true →
          exec (.remoteStart .link) s = .next (answer .link (Reply.refused .fault) s)) ∧
        (s.prog.arm = true → s.sup.mode = .normal → leakPresent s = false →
          s.notes.standing.inletLeak = false → s.notes.standing.rodStuck = false →
          exec (.remoteStart .link) s = .next (answer .link Reply.ok (finish (enterRunning (startCommon s))))))) ∧
  (∀ s : State,
    (startCommon s).prog = { s.prog with arm := false, soilClass := 1 } ∧
      (startCommon s).therm = { s.therm with slowCount := 0 } ∧
      (s.rod.referenced = true → (startCommon s).rod = s.rod) ∧
      (s.rod.referenced = false → s.rod.motion = none → s.mon.home.state = false → (startCommon s).rod =
        { s.rod with motion := some ⟨.approach s.rod.count 0, .start, .inward, .slow, false, 0, 0, 0, 0, 0⟩ })) ∧
  (∀ (s : State) (r : PhaseRecord) (rest : List PhaseRecord), s.prog.queue = r :: rest →
    (enterRunning s).prog.state = .running ∧ (enterRunning s).prog.queue = s.prog.queue ∧
      (enterRunning s).prog.arm = false ∧ (enterRunning s).prog.delay = none ∧
      (enterRunning s).prog.soilClass = s.prog.soilClass ∧ (enterRunning s).soft = { s.soft with tail := none } ∧
      (r.kind.wet = true → s.water.holder ≠ some .wash → s.water.waitWash = false →
        (enterRunning s).prog.phase =
          some ⟨.filling, none, 0, s.therm.working.getD 0, false, false, false, none⟩ ∧
        (enterRunning s).prog.stallCount = 0 ∧ (enterRunning s).prog.retry = none ∧
        (enterRunning s).water.record =
          some ⟨.wash, some (r.fillVolume.getD 0), s.cal.flowQ, 0, 0, 0, 0, none, false⟩ ∧
        (grantable s = true → (enterRunning s).water.holder = some .wash) ∧
        (grantable s = false → (enterRunning s).water.waitWash = true) ∧
        (enterRunning s).prog.holds =
          ⟨false, !rodHome s || !doorClosed s, false, !grantable s,
           s.soft.window == .standAlone && (s.soft.state == .flush || s.soft.state == .resinRinse), inhibited s⟩) ∧
      (r.kind.wet = false →
        (enterRunning s).prog.phase = some
          ⟨.dryWait, if doorClosed s = false then some (.goto .airing)
             else if r.holdTime = 0 then some (.goto .opening) else none,
           0, s.therm.working.getD 0, false, false, false, none⟩ ∧
        (enterRunning s).rod = { s.rod with dryWait := some (r.holdTime * 1000) } ∧
        (enterRunning s).water = s.water ∧
        (enterRunning s).prog.holds =
          ⟨false, false, false, false,
           s.soft.window == .standAlone && (s.soft.state == .flush || s.soft.state == .resinRinse), inhibited s⟩))

/-- CANCEL on every port (R12): in IDLE and CANCELLING it answers OK with no effect; otherwise the queue is emptied,
one result record being numbered for each record that leaves, the arm cleared and the delay discarded, and the
program is CANCELLING when the tank-wet flag is set and IDLE otherwise; the settings, inputs, modes and ports stay. -/
def Obligations.CancelEmptiesTheQueue : Prop :=
  ∀ (p : Port) (s : State), reaches p .all s →
    (s.prog.state = .idle ∨ s.prog.state = .cancelling → exec (.cancel p) s = .next (answer p Reply.ok s)) ∧
      (s.prog.state = .ready ∨ s.prog.state = .delayed ∨ s.prog.state = .faulted ∨
          (s.prog.state = .running ∧ s.prog.phase ≠ none ∧ s.prog.queue ≠ []) →
        ∃ t, exec (.cancel p) s = .next (answer p Reply.ok t) ∧ t.prog.queue = [] ∧ t.prog.arm = false ∧
          t.prog.delay = none ∧ t.prog.state = (if s.prog.tankWet then .cancelling else .idle) ∧
          t.notes.next = s.notes.next + BitVec.ofNat 32 s.prog.queue.length ∧
          (s.prog.state = .running → t.prog.phase = none ∧ t.prog.holds = HoldSet.empty) ∧
          t.cal = s.cal ∧ t.mon = s.mon ∧ t.sup = s.sup ∧ t.ports = s.ports)

/-- The program's own timers. The start delay's expiry (R8) starts the program when its conditions hold, and
otherwise returns it to READY with START_REFUSED on every port; in QUIET it wakes the part first when DELAY is
enabled, and finds QUIET otherwise. The DOOR qualification's expiry removes DOOR (R24). The retry timer's expiry
removes WATER and retries the fill (R25). -/
def Obligations.ProgramTimersExpire : Prop :=
  ∀ s : State,
    (s.prog.state = .delayed → s.prog.delay ≠ none → s.sup.mode = .normal → doorClosed s = true →
        leakPresent s = false → s.notes.standing.inletLeak = false → s.notes.standing.rodStuck = false →
        exec .startDelayExpiry s = .next (finish (enterRunning s))) ∧
      (s.prog.state = .delayed → s.prog.delay ≠ none →
        (s.sup.mode = .quiet ∧ s.sup.wake.delay = false) ∨ s.sup.mode = .service ∨
          (s.sup.mode = .normal ∧ (doorClosed s = false ∨ leakPresent s = true ∨
            s.notes.standing.inletLeak = true ∨ s.notes.standing.rodStuck = true)) →
        exec .startDelayExpiry s =
          .next (raiseAll .startRefused { s with prog := { s.prog with state := .ready, delay := none } })) ∧
      (s.prog.state = .delayed → s.prog.delay ≠ none → s.sup.mode = .quiet → s.sup.wake.delay = true →
        exec .startDelayExpiry s = exec .startDelayExpiry (finish (raiseAll .woke
          { s with sup := { s.sup with mode := .normal, lastWake := some .delay } }))) ∧
      ((runningPhase s).isSome = true → s.prog.holds.door = true → doorClosed s = true → rodHome s = true →
        exec .doorQualificationExpiry s = .next (finish
          { s with prog := { s.prog with holds := { s.prog.holds with door := false }, doorQual := 0 } })) ∧
      (s.prog.retry ≠ none → exec .waterRetryExpiry s = .next (finish (retryWash
        { s with prog := { s.prog with retry := none, holds := { s.prog.holds with water := false } } })))

/-! ### Water intake (spec/02) -/

/-- A flow pulse goes to the first owner that applies (R31): under the inlet override the service fill; the holder's
fill; the fill of the settle window; otherwise it is unattributed. A pulse of a wash or service fill is counted and
split as `pulseRecord` does (O18), its record and the softener's account taking the result; a pulse of a softener fill
counts p and V of its counter, in its settle window too (V at the crossing pulse: the model's, log 12). A record that
the window keeps apart takes the window's pulses, as R35 has it for a service fill and the model for a wash fill (log
14). A holder's pulse restarts the stall timer, and ends the fill TARGET with its settle window when its demand was on
and nothing remains (R33, R42). An unattributed pulse adds 1 to the unattributed count, up to 65,535, and enters no fill
and no account, whether a program runs or not: p, V, V_soft and V_hard of the current record stay, and the softener's
account stays but for the restore that the fault of the program may bring to a waiting RESIN_RINSE (R92). It finds an
inlet leak when 20 pulses with it lie within 60 s: INLET_LEAK is then set and logged with the count, a RUNNING program
is faulted, and while the fault stands nothing further is logged; a pulse that finds no new leak changes the count and
the arrival times alone (R46, R47; the arrival times are on the model's clock, log 35). -/
def Obligations.FlowPulsesFindTheirOwner : Prop :=
  (∀ s : State,
    (s.sup.overrides.inlet = true → exec .flowPulse s = .next (finish (servicePulse s))) ∧
      (s.sup.overrides.inlet = false →
        (∀ c, s.water.holder = some c → exec .flowPulse s = .next (finish (holderPulse c s))) ∧
        (∀ w, s.water.holder = none → s.water.window = some w →
          exec .flowPulse s = .next (finish (windowPulse w s))) ∧
        (s.water.holder = none → s.water.window = none →
          exec .flowPulse s = .next (finish (unattributedPulse s))))) ∧
  (∀ (s : State) (r : FillRecord), s.water.record = some r →
    (r.origin = .service → r.p < 65535 →
        (servicePulse s).water = { s.water with record := some (pulseRecord r s).1 } ∧
        (servicePulse s).soft = (pulseRecord r s).2.soft) ∧
      (r.origin = .wash ∨ r.p = 65535 → servicePulse s = unattributedPulse s) ∧
      (s.water.holder = some .wash → (holderPulse .wash s).soft = (pulseRecord r s).2.soft) ∧
      (s.water.holder = some .wash →
        inletDemand s = false ∨ (∀ t, r.target = some t → (pulseRecord r s).1.v < t) →
        (holderPulse .wash s).water = { s.water with record := some (pulseRecord r s).1, stall := 0 }) ∧
      (∀ t, s.water.holder = some .wash → inletDemand s = true → r.origin = .wash → r.ending = none →
        r.target = some t → t ≤ (pulseRecord r s).1.v →
        (holderPulse .wash s).water = { s.water with
          record := some { (pulseRecord r s).1 with ending := some .target }
          holder := none, stall := 0, window := some ⟨.wash, 2000, none, none⟩ }) ∧
      (∀ w, w.kept = none → w.owner = .wash →
        (windowPulse w s).water = { s.water with record := some (pulseRecord r s).1 } ∧
        (windowPulse w s).soft = (pulseRecord r s).2.soft) ∧
      (∀ w, w.kept = none → w.owner = .service → windowPulse w s = servicePulse s)) ∧
  (∀ (s : State) (w : SettleWindow) (k : FillRecord), w.kept = some k →
    (k.p < 65535 →
        (windowPulse w s).water = { s.water with window := some { w with kept := some (pulseRecord k s).1 } } ∧
        (windowPulse w s).soft = (pulseRecord k s).2.soft) ∧
      (65535 ≤ k.p → windowPulse w s = unattributedPulse s)) ∧
  (∀ (s : State) (c : Client) (x y : SoftCounter), s.water.softCounter = some x → c = .brine ∨ c = .rinse →
    y = { x with p := min 65535 (x.p + 1), v := fillVolume (some x.target) x.q (min 65535 (x.p + 1)) } →
    (inletDemand s = false ∨ y.v < x.target →
        holderPulse c s = { s with water := { s.water with stall := 0, softCounter := some y } }) ∧
      (s.water.holder = some c → inletDemand s = true → x.target ≤ y.v →
        holderPulse c s = { s with water := { s.water with
          stall := 0, holder := none, softCounter := none
          window := some
            ⟨if c = .brine then .brine else .rinse, 2000, some { y with ending := some .target }, none⟩ } })) ∧
  (∀ (s : State) (w : SettleWindow) (x y : SoftCounter), w.kept = none → w.owner = .brine ∨ w.owner = .rinse →
    w.counter = some x →
    y = { x with p := min 65535 (x.p + 1), v := fillVolume (some x.target) x.q (min 65535 (x.p + 1)) } →
    windowPulse w s = { s with water := { s.water with window := some { w with counter := some y } } }) ∧
  (∀ s : State,
    (unattributedPulse s).water.unattributed = min 65535 (s.water.unattributed + 1) ∧
      (s.prog.state ≠ .running →
        (unattributedPulse s).soft = s.soft ∧ (unattributedPulse s).water.record = s.water.record) ∧
      (unattributedPulse s).water.arrivals = arrivalsAfter s.water.arrivals s.clock ∧
      (unattributedPulse s).water.arrivals.length ≤ 20 ∧
      (leakFound (arrivalsAfter s.water.arrivals s.clock) s.clock = true →
        (unattributedPulse s).notes.standing.inletLeak = true) ∧
      (leakFound (arrivalsAfter s.water.arrivals s.clock) s.clock = true → s.notes.standing.inletLeak = false →
        (unattributedPulse s).notes.log = appendLog s.notes.log
          ⟨.inletLeak, .waterIntake, runningTag s, some (min 65535 (s.water.unattributed + 1) : Nat), s.store.minutes⟩ ∧
        (s.prog.state = .running → (unattributedPulse s).prog.state = .faulted) ∧
        (s.prog.state ≠ .running → (unattributedPulse s).prog = s.prog ∧
          ∀ p k, ((unattributedPulse s).notes.get p).count k =
            if k = .fault then min 15 ((s.notes.get p).count k + 1) else (s.notes.get p).count k)) ∧
      (leakFound (arrivalsAfter s.water.arrivals s.clock) s.clock = false ∨
          s.notes.standing.inletLeak = true →
        unattributedPulse s = { s with water := { s.water with
          unattributed := min 65535 (s.water.unattributed + 1)
          arrivals := arrivalsAfter s.water.arrivals s.clock } }) ∧
      (unattributedPulse s).water.record.map (fun r => (r.origin, r.target, r.q, r.p, r.v, r.vSoft, r.vHard)) =
        s.water.record.map (fun r => (r.origin, r.target, r.q, r.p, r.v, r.vSoft, r.vHard)) ∧
      (s.soft.window ≠ .phase → (unattributedPulse s).soft = s.soft) ∧
      (s.soft.state ≠ .resinRinse ∨ s.water.waitSoft ≠ some .rinse → (unattributedPulse s).soft.c = s.soft.c))

/-- A pulse counted by an exact fill record (R32 to R34, R48, R78): p grows by 1 up to 65,535, V is the volume of the
new p (target + 800 mL at the crossing pulse: the model's choice, log 12), the record stays exact with V_soft + V_hard =
V, and no part ever shrinks. Water that passed hard through the salt container leaves C; otherwise C pays D for each
softened mL, and a part passes hard only when C is then below D. -/
def Obligations.PulseIsSplitExactly : Prop :=
  ∀ (r : FillRecord) (s : State), r.exact →
    (pulseRecord r s).1.exact ∧ (pulseRecord r s).1.p = min 65535 (r.p + 1) ∧
      (pulseRecord r s).1.v = fillVolume r.target r.q (min 65535 (r.p + 1)) ∧
      r.vSoft ≤ (pulseRecord r s).1.vSoft ∧ r.vHard ≤ (pulseRecord r s).1.vHard ∧
      (pulseRecord r s).1.origin = r.origin ∧ (pulseRecord r s).1.ending = r.ending ∧
      (r.origin = .service → routeFinal s = true →
        (pulseRecord r s).2.soft.c = s.soft.c ∧ (pulseRecord r s).1.vSoft = r.vSoft) ∧
      (r.origin = .wash ∨ routeFinal s = false →
        (pulseRecord r s).2.soft.c + hardnessD s * ((pulseRecord r s).1.vSoft - r.vSoft) = s.soft.c ∧
        (r.vHard < (pulseRecord r s).1.vHard → (pulseRecord r s).2.soft.c < hardnessD s)) ∧
      (pulseRecord r s).2.soft.retryBlock = false

/-- The settle window's expiry (R36, R38): the window is gone, WASH_FILL is granted before the softener's client and has
INLET removed, a waiting softener client is granted otherwise, and the released fill becomes final; with no window
nothing happens, and with the inlet override on no client is granted (R49). A brine fill that becomes final ended TARGET
leads to DISSOLVE with its timer loaded, one ended OVERFILL to PENDING (spec/04 R83); a final resin rinse leads to the
restore: C grows by the restore factor's part of Cfull, the count by 1, REGEN_DONE is raised, a checkpoint is triggered
and the softener is IDLE, or PENDING with C below T (spec/04 R88, R89). A fill stalls only while a holder's valve is
open (R42), and its grant is released with a new settle window. A wash stall adds 1 to the stall count and raises
NO_WATER on every port; the first two put the phase under WATER with a 60 s timer, the third logs NO_WATER with the
count and faults the program; a brine stall logs BRINE_STALL with the volume counted, sets the retry block and returns
to PENDING; a rinse stall leaves the softener as it is (R25, R43, spec/04 R83). -/
def Obligations.SettleWindowsAndStalls : Prop :=
  (∀ s : State,
    (s.water.window = none → exec .settleWindowExpiry s = .next s) ∧
      (∀ w, s.water.window = some w →
        exec .settleWindowExpiry s = .next (finish (softFinal w.owner w.counter (grantWaiting (windowFinal w
          { s with water := { s.water with window := none } }))))) ∧
      (s.sup.overrides.inlet = true → grantWaiting s = s) ∧
      (s.sup.overrides.inlet = false → s.water.waitWash = true → (grantWaiting s).water.holder = some .wash ∧
        (grantWaiting s).water.waitWash = false ∧ (grantWaiting s).water.waitSoft = s.water.waitSoft ∧
        ((runningPhase s).isSome = true → (grantWaiting s).prog.holds = { s.prog.holds with inlet := false })) ∧
      (s.sup.overrides.inlet = false → s.water.waitWash = false → s.water.waitSoft = some .brine →
        (grantWaiting s).water.holder = some .brine ∧ (grantWaiting s).water.waitSoft = none) ∧
      (s.sup.overrides.inlet = false → s.water.waitWash = false → s.water.waitSoft = some .rinse →
        (grantWaiting s).water.holder = some .rinse ∧ (grantWaiting s).water.waitSoft = none) ∧
      (s.water.waitWash = false → s.water.waitSoft = none → grantWaiting s = s) ∧
      (∀ w r, w.kept = none → w.owner = .wash → s.water.record = some r → r.origin = .wash → r.ending ≠ none →
        (windowFinal w s).water.record = some { r with isFinal := true }) ∧
      (∀ w, s.water.window = some w → s.water.softCounter = none →
        (∀ x, w.owner = .brine → w.counter = some x → s.soft.state = .brineFill →
          (x.ending = some .target → ∃ t, exec .settleWindowExpiry s = .next t ∧ t.soft =
            { s.soft with state := .dissolve, dissolve := some (s.cal.dissolveTime * 1000) }) ∧
          (x.ending = some .overfill → ∃ t, exec .settleWindowExpiry s = .next t ∧
            t.soft = { s.soft with state := .pending })) ∧
        (w.owner = .rinse → s.soft.state = .resinRinse → ∃ t, exec .settleWindowExpiry s = .next t ∧
          t.soft.c = min s.cal.cfull (s.soft.c + s.cal.cfull * s.soft.factor / 100) ∧
          t.soft.regenCount = min 65535 (s.soft.regenCount + 1) ∧ t.soft.window = .none ∧
          t.soft.charged = s.soft.charged ∧
          t.soft.state = (if t.soft.c < s.cal.cfull * s.cal.thr / 100 then .pending else .idle) ∧
          (runningPhase s = none →
            (∀ p k, (t.notes.get p).count k =
              if k = .regenDone then min 15 ((s.notes.get p).count k + 1) else (s.notes.get p).count k) ∧
            (s.store.writing ≠ none → t.store.again = true) ∧
            (s.store.writing = none → powerFailing s = false → freshWaiting s = false →
              t.store.writing.map (·.c) = some t.soft.c))))) ∧
  (∀ s : State,
    (s.water.holder = none ∨ inletFinal s = false → exec .fillStall s = .next s) ∧
      (s.water.holder = some .wash → inletFinal s = true → exec .fillStall s = .next (finish (washStall s))) ∧
      (s.water.holder = some .wash → s.prog.stallCount < 2 →
        (washStall s).prog.stallCount = s.prog.stallCount + 1 ∧ (washStall s).prog.retry = some 60000 ∧
        (washStall s).prog.state = s.prog.state ∧
        (washStall s).water = { s.water with
          holder := none, stall := 0, window := some ⟨.wash, 2000, none, none⟩ } ∧
        ((runningPhase s).isSome = true → (washStall s).prog.holds = { s.prog.holds with water := true }) ∧
        (washStall s).notes = (raiseAll .noWater s).notes ∧
        (∀ p, ((washStall s).notes.get p).count .noWater = min 15 ((s.notes.get p).count .noWater + 1))) ∧
      (s.water.holder = some .wash → 2 ≤ s.prog.stallCount → s.prog.state = .running →
        (washStall s).prog.state = .faulted ∧ (washStall s).prog.arm = false ∧ (washStall s).water.holder = none ∧
        (washStall s).notes.log = appendLog s.notes.log ⟨.noWater, .programController, runningTag s,
          some (s.prog.stallCount + 1 : Nat), s.store.minutes⟩ ∧
        (∀ p, ((washStall s).notes.get p).count .noWater = min 15 ((s.notes.get p).count .noWater + 1))) ∧
      (s.water.holder = some .brine → inletFinal s = true →
        (∃ t, exec .fillStall s = .next t ∧
          t.soft = { s.soft with retryBlock := true, state := .pending } ∧ t.cal = s.cal ∧ t.sup = s.sup) ∧
        exec .fillStall s = .next (finish (brineStall s)) ∧
        (brineStall s).notes = (logFault .brineStall .softener
          (some ((match s.water.softCounter with | some c => c.v | none => 0) : Nat)) s).notes ∧
        (brineStall s).water = { s.water with
          holder := none, stall := 0, softCounter := none
          window := some ⟨.brine, 2000, s.water.softCounter, none⟩ }) ∧
      (s.water.holder = some .rinse → inletFinal s = true →
        ∃ t, exec .fillStall s = .next t ∧ t.soft = s.soft ∧ t.cal = s.cal ∧ t.sup = s.sup))

/-! ### Temperature and heating (spec/03) -/

/-- A reading (R52, R53, R60): the raw reading is held to 0.0..100.0 °C, only an in-range one becomes the working
temperature, the latch sets at 75.0 °C and clears at 70.0 °C, an in-range reading stops the out-of-range timer and an
out-of-range one starts it at zero unless it runs or SENSOR_TEMP stands. Temperatures are in half degrees. What an
in-range reading does to a running phase before the stages follow it (R54 to R57, Table 3-1): the peak keeps the highest
working temperature, in every stage; in HEATING below the target the regulator turns ON below target − 1.0 °C and is
otherwise left, and the first rise window starts when none runs (at the first reading after a reset: the model's, log
21); in HEATING at or above the target the regulator is OFF, the rise check stops and "target reached" is reported and
kept, also under a suspension; in HOLDING the regulator turns ON below target − 2.0 °C and OFF at or above the target; a
stage without a regulator gets none; a HEATING whose end is already reported, another stage, and a phase without a
target keep theirs. -/
def Obligations.ReadingSetsRawWorkingAndLatch : Prop :=
  (∀ (x : Int) (s : State), ∃ t, exec (.temperatureReading x) s = .next t ∧
    t.therm.raw = some (max 0 (min 200 x)).toNat ∧
    t.therm.working = (if 4 ≤ x ∧ x ≤ 196 then some x.toNat else s.therm.working) ∧
    t.therm.latch = (if 150 ≤ x then true else if x ≤ 140 then false else s.therm.latch) ∧
    t.therm.outTimer =
      (if 4 ≤ x ∧ x ≤ 196 then none
       else if s.notes.standing.sensorTemp = true then none
       else if s.therm.outTimer = none then some 0 else s.therm.outTimer) ∧
    t.soft = s.soft ∧ t.cal = s.cal ∧ t.sup = s.sup ∧ t.mon = s.mon ∧ t.ports = s.ports) ∧
  (∀ (x : Int) (s : State), 4 ≤ x → x ≤ 196 →
    exec (.temperatureReading x) s = .next (finish (takeWorking x.toNat
      { s with therm := { s.therm with
          raw := some x.toNat, outTimer := none,
          latch := if 150 ≤ x then true else if x ≤ 140 then false else s.therm.latch } }))) ∧
  (∀ (w : Nat) (s : State),
    (runningPhase s = none → takeWorking w s = { s with therm := { s.therm with working := some w } }) ∧
      ∀ r ph, runningPhase s = some (r, ph) →
        ((takeWorking w s).prog.phase.map (·.peak) = some (max ph.peak w)) ∧
        (r.heatTarget = none ∨ (ph.stage ≠ .heating ∧ ph.stage ≠ .holding) ∨
            (ph.stage = .heating ∧ ph.stageEnd ≠ none) →
          takeWorking w s = { s with therm := { s.therm with working := some w }
                                     prog := { s.prog with phase := some { ph with peak := max ph.peak w } } }) ∧
        (∀ target, r.heatTarget = some target → ph.stage = .heating → ph.stageEnd = none →
          (target ≤ w → takeWorking w s =
            { s with
              therm := { s.therm with
                working := some w, regulator := s.therm.regulator.map (fun _ => false), rise := none }
              prog := { s.prog with
                phase := some { ph with peak := max ph.peak w, heated := true, stageEnd := some .finished } } }) ∧
          (w < target → takeWorking w s =
            { s with
              therm := { s.therm with
                working := some w
                regulator := s.therm.regulator.map (fun on => if w + 2 < target then true else on)
                rise := if s.therm.rise = none ∧ suspended s = false then some ⟨0, w⟩ else s.therm.rise }
              prog := { s.prog with phase := some { ph with peak := max ph.peak w } } })) ∧
        (∀ target, r.heatTarget = some target → ph.stage = .holding → takeWorking w s =
          { s with
            therm := { s.therm with
              working := some w
              regulator := s.therm.regulator.map (fun on =>
                if target ≤ w then false else if w + 4 < target then true else on) }
            prog := { s.prog with phase := some { ph with peak := max ph.peak w } } }))

/-- SENSOR_TEMP, while the out-of-range timer runs, is set and stays set, the timer stops, and the fault is logged with
the raw reading, in half degrees (log 26), before the stage loses its heater: HEATING ends with "heat skipped", also
when its target was reached and kept (log 20), and HOLDING goes on unheated (R53). The rise check's expiry in HEATING
(R57, R58): a gain of 1.0 °C or more starts the next window at the current temperature; a lower gain is a miss, logged
as HEAT_SLOW with the gain in half degrees (log 26), which marks "heat missed", ends HEATING with HOLDING entered
unheated, and then adds 1 to the slow count; from 2 on HEATER is set and logged, unless it stands. -/
def Obligations.HeatingEndsByFaultOrMiss : Prop :=
  (∀ s : State,
    (s.therm.outTimer = none → exec .sensorTemp s = .next s) ∧
      (s.therm.outTimer ≠ none →
        exec .sensorTemp s = .next (finish (loseHeater (logFault .sensorTemp .thermalUnit
          (s.therm.raw.map (fun x => (x : Int)))
          { s with therm := { s.therm with outTimer := none }
                   notes := { s.notes with standing := { s.notes.standing with sensorTemp := true } } }))) ∧
        ∃ t, exec .sensorTemp s = .next t ∧ t.notes.standing.sensorTemp = true ∧ t.therm.outTimer = none ∧
          t.therm.raw = s.therm.raw ∧ t.soft = s.soft ∧ t.cal = s.cal ∧ t.sup = s.sup) ∧
      (runningStage s ≠ some .heating → runningStage s ≠ some .holding →
        loseHeater s = { s with therm := { s.therm with regulator := none, rise := none } }) ∧
      (∀ r ph, runningPhase s = some (r, ph) → ph.stage = .heating →
        (loseHeater s).prog.phase =
          some { ph with heated := false, heatSkipped := true, stageEnd := some .finished }) ∧
      (∀ r ph, runningPhase s = some (r, ph) → ph.stage = .holding →
        (loseHeater s).prog.phase = some { ph with heated := false } ∧ (loseHeater s).therm.regulator = none)) ∧
  (∀ (s : State) (win : RiseWindow) (w : Nat) (r : PhaseRecord) (ph : RunningPhase),
    s.therm.rise = some win → s.therm.working = some w → runningPhase s = some (r, ph) → ph.stage = .heating →
    ph.stageEnd = none → suspended s = false →
    (win.reference + 2 ≤ w →
        exec .riseCheckExpiry s = .next { s with therm := { s.therm with rise := some ⟨0, w⟩ } }) ∧
      (w < win.reference + 2 →
        exec .riseCheckExpiry s = .next (finish (riseMiss ((w : Int) - (win.reference : Int)) s)) ∧
        (∀ g, (riseMiss g s).therm.slowCount = s.therm.slowCount + 1 ∧
          (∃ x, (riseMiss g s).prog.phase = some x ∧ x.stage = .holding ∧ x.heatMissed = true ∧ x.heated = false ∧
            x.heatSkipped = ph.heatSkipped ∧ x.age = ph.age) ∧
          (riseMiss g s).therm.regulator = none ∧ (riseMiss g s).therm.rise = none ∧
          (1 ≤ s.therm.slowCount → (riseMiss g s).notes.standing.heater = true) ∧
          (1 ≤ s.therm.slowCount → s.notes.standing.heater = false →
            (riseMiss g s).notes.log.getLast? = some ⟨.heater, .thermalUnit, some r.tag, none, s.store.minutes⟩) ∧
          (r.holdTime ≠ 0 → s.therm.slowCount = 0 ∨ s.notes.standing.heater = true →
            (riseMiss g s).notes = (logFault .heatSlow .thermalUnit (some g) s).notes) ∧
          (r.holdTime ≠ 0 → 1 ≤ s.therm.slowCount → s.notes.standing.heater = false →
            (riseMiss g s).notes.log = appendLog
              (appendLog s.notes.log ⟨.heatSlow, .thermalUnit, some r.tag, some g, s.store.minutes⟩)
              ⟨.heater, .thermalUnit, some r.tag, none, s.store.minutes⟩))))

/-- The hold timer's expiry ends HOLDING: the regulator and the timer go, a PRE phase with the soil flag takes its
sample from the reading carried, and the end is reported; outside HOLDING or while suspended nothing happens (R59,
spec/01 R27). -/
def Obligations.HoldExpiryEndsHolding : Prop :=
  ∀ (x : Turbidity) (s : State) (r : PhaseRecord) (ph : RunningPhase), runningPhase s = some (r, ph) →
    (ph.stage ≠ .holding ∨ ph.stageEnd ≠ none ∨ suspended s = true ∨ s.therm.hold = none →
        exec (.holdTimerExpiry x) s = .next s) ∧
      (ph.stage = .holding → ph.stageEnd = none → suspended s = false → s.therm.hold ≠ none →
        exec (.holdTimerExpiry x) s = .next (finish (holdingOver x r s)) ∧
        (holdingOver x r s).therm.hold = none ∧ (holdingOver x r s).therm.regulator = none ∧
        ((r.kind ≠ .pre ∨ r.soilSample = false) →
          (holdingOver x r s).prog.phase = some { ph with stageEnd := some .finished } ∧
          (holdingOver x r s).prog.soilClass = s.prog.soilClass) ∧
        (r.kind = .pre → r.soilSample = true → s.notes.standing.soilSensor = false → x ≠ 0 → x ≠ 1023 →
          (holdingOver x r s).prog.soilClass = classify s.cal x.toNat ∧
          (holdingOver x r s).prog.phase =
            some { ph with sample := some (classify s.cal x.toNat), stageEnd := some .finished }) ∧
        (r.kind = .pre → r.soilSample = true → s.notes.standing.soilSensor = true ∨ x = 0 ∨ x = 1023 →
          (holdingOver x r s).prog.soilClass = 1 ∧ (holdingOver x r s).notes.standing.soilSensor = true))

/-- Diverter pulses (R64, R66, R67): a detent advances a known position by 1 modulo 4 and leaves UNKNOWN, an index pulse
gives 0; the stall timer is at zero afterwards. An index pulse found at 0, 1 or 2 logs DIVERTER_SLIP first, with the
position found. In an ALTERNATE phase a pulse into the wanted set starts the switching timer at 30 s, and one that
leaves the position outside the set discards it (R66). The ALTERNATE expiry swaps LOWER and UPPER while the timer counts
(R66). A diverter stall needs the motor's final state on: it sets and logs DIVERTER_STALL with the position, with no
detail at UNKNOWN (log 26), under the service override too (the model's reading of R67 beside R166, log 19); while the
fault stands it only restarts its timer, without a further log (R67). That the switching timer is loaded while
DIVERTER_STALL stands is the model's (log 44). -/
def Obligations.DiverterFollowsPulsesAndTimers : Prop :=
  (∀ s : State,
    (∃ t, exec .detentPulse s = .next t ∧ t.therm.position = s.therm.position.map (· + 1) ∧
        t.therm.divStall = 0 ∧ t.soft = s.soft ∧ t.cal = s.cal ∧ t.sup = s.sup) ∧
      exec .detentPulse s = .next (finish (startAlternate
        { s with mon := { s.mon with detent := ⟨true, true, true, 0⟩ }
                 therm := { s.therm with position := s.therm.position.map (· + 1), divStall := 0 } })) ∧
      (∃ t, exec .indexPulse s = .next t ∧ t.therm.position = some 0 ∧ t.therm.divStall = 0 ∧
        t.soft = s.soft ∧ t.cal = s.cal ∧ t.sup = s.sup) ∧
      exec .indexPulse s = .next (finish (startAlternate
        { s with mon := { s.mon with index := ⟨true, true, true, 0⟩ }
                 notes := (logSlip s).notes
                 therm := { s.therm with position := some 0, divStall := 0 } })) ∧
      (s.therm.position = none ∨ s.therm.position = some 3 → logSlip s = s) ∧
      (∀ p, s.therm.position = some p → p ≠ 3 →
        logSlip s = logFault .diverterSlip .thermalUnit (some (p.val : Int)) s) ∧
      (s.therm.wanted = none → startAlternate s = s) ∧
      (∀ z r ph, s.therm.wanted = some z → runningPhase s = some (r, ph) → r.zones = some .alternate →
        startAlternate s = { s with therm := { s.therm with
          alternate := if inWantedSet z s.therm.position = true then some 30000 else none } })) ∧
  (∀ s : State,
    (s.therm.alternate ≠ none → circulating s = true → s.notes.standing.diverterStall = false →
        exec .alternateSwitchExpiry s = .next (finish { s with therm :=
          { s.therm with
            wanted := s.therm.wanted.map (fun z =>
              match z with | .lower => .upper | .upper => .lower | .both => .both)
            alternate := none } })) ∧
      (s.therm.alternate = none ∨ circulating s = false ∨ s.notes.standing.diverterStall = true →
        exec .alternateSwitchExpiry s = .next s) ∧
      (diverterFinal s = false → exec .diverterStall s = .next s) ∧
      (diverterFinal s = true → s.notes.standing.diverterStall = true →
        exec .diverterStall s = .next { s with therm := { s.therm with divStall := 0 } }) ∧
      (diverterFinal s = true → s.notes.standing.diverterStall = false →
        exec .diverterStall s = .next (finish (logFault .diverterStall .thermalUnit
          (s.therm.position.map (fun p => (p.val : Int)))
          { s with therm := { s.therm with divStall := 0 }
                   notes := { s.notes with standing := { s.notes.standing with diverterStall := true } } })) ∧
        ∃ t, exec .diverterStall s = .next t ∧ t.notes.standing.diverterStall = true ∧ t.therm.divStall = 0 ∧
          t.therm.position = s.therm.position ∧ t.soft = s.soft ∧ t.cal = s.cal ∧ t.sup = s.sup))

/-- The drain (R68 to R72): a delivered change of the level switch to dry moves a PUMPING job to TAILING with the tail
at zero, one to water moves a TAILING or DRY_HELD job to PUMPING, suspended and held jobs too; the tail's expiry
completes the job, or holds it dry while an extension runs; the timeout logs DRAIN_BLOCKED, its detail 1 for water and 0
for dry (the model's codes, log 26), and faults the program. A suspended PHASE job, and a CANCEL job held by the leak
input or the inhibit line, takes neither expiry (R72); a job that is not TAILING takes no tail expiry, a DRY_HELD one
and one with an extension no timeout; with no job nothing happens. A cancel drain that completes leaves CANCELLING for
IDLE with the tank-wet flag clear, and with no notice, result or log (R13, R14). A timeout leaves FAULTED from
CANCELLING, and from DRAINING with the running phase's record gone: the tank-wet flag stays, no job is left, and the
record logged carries the phase tag for a PHASE job (R13, R16, R70). The inlet override, which may wet the tank again
(log 49), is off in these. -/
def Obligations.DrainJobMovesWithTheLevel : Prop :=
  (∀ s : State, s.therm.drain = none →
    exec .drainTailExpiry s = .next s ∧ exec .drainBlocked s = .next s) ∧
  (∀ (s : State) (j : DrainJob), s.therm.drain = some j →
    (s.mon.level.read = true → s.mon.level.state = true →
        exec (.levelSwitchChange false) s = .next (finish
          { s with
            mon := { s.mon with level := ⟨false, false, true, 0⟩ }
            therm := { s.therm with
              drain := some (if j.state = .pumping then { j with state := .tailing, tail := 0 } else j) } })) ∧
      (s.mon.level.read = true → s.mon.level.state = false →
        exec (.levelSwitchChange true) s = .next (finish
          { s with
            mon := { s.mon with level := ⟨true, true, true, 0⟩ }
            therm := { s.therm with
              drain := some (if j.state = .pumping then j else { j with state := .pumping, tail := 0 }) } })) ∧
      (j.state = .tailing → drainHeld s j = false → extension s = true →
        exec .drainTailExpiry s = .next (finish
          { s with therm := { s.therm with drain := some { j with state := .dryHeld, tail := 15000 } } })) ∧
      (j.state = .tailing → drainHeld s j = false → extension s = false →
        exec .drainTailExpiry s = .next (finish (completeDrain s))) ∧
      (j.state ≠ .dryHeld → drainHeld s j = false → extension s = false →
        exec .drainBlocked s = .next (finish (faultAndClose
          { (logFault .drainBlocked .thermalUnit (some (if levelWater s then 1 else 0)) s) with
            therm := { s.therm with drain := none } }))) ∧
      ((j.kind = .phase ∧ suspended s = true) ∨ (j.kind = .cancel ∧ (leakPresent s = true ∨ inhibited s = true)) →
        exec .drainTailExpiry s = .next s ∧ exec .drainBlocked s = .next s) ∧
      (j.state ≠ .tailing → exec .drainTailExpiry s = .next s) ∧
      (j.state = .dryHeld ∨ extension s = true → exec .drainBlocked s = .next s)) ∧
  (∀ (s : State) (j : DrainJob), s.therm.drain = some j → j.kind = .cancel → s.prog.state = .cancelling →
    leakPresent s = false → inhibited s = false → extension s = false → s.sup.overrides.inlet = false →
      (j.state = .tailing → ∃ t, exec .drainTailExpiry s = .next t ∧ t.prog.state = .idle ∧
        t.prog.tankWet = false ∧ t.prog.queue = s.prog.queue ∧ t.therm.drain = none ∧ t.notes = s.notes ∧
        t.store = s.store ∧ t.soft = s.soft) ∧
      (j.state ≠ .dryHeld → ∃ t, exec .drainBlocked s = .next t ∧ t.prog.state = .faulted ∧
        t.prog.tankWet = s.prog.tankWet ∧ t.prog.queue = s.prog.queue ∧ t.therm.drain = none ∧
        t.notes.log = appendLog s.notes.log
          ⟨.drainBlocked, .thermalUnit, none, some (if levelWater s then 1 else 0), s.store.minutes⟩)) ∧
  (∀ (s : State) (j : DrainJob) (r : PhaseRecord) (ph : RunningPhase), s.therm.drain = some j → j.kind = .phase →
    runningPhase s = some (r, ph) → ph.stage = .draining → suspended s = false → extension s = false →
    s.sup.overrides.inlet = false → j.state ≠ .dryHeld →
      ∃ t, exec .drainBlocked s = .next t ∧ t.prog.state = .faulted ∧ t.prog.phase = none ∧
        t.prog.queue = s.prog.queue.tail ∧ t.prog.tankWet = s.prog.tankWet ∧ t.therm.drain = none ∧
        t.notes.log = appendLog s.notes.log
          ⟨.drainBlocked, .thermalUnit, some r.tag, some (if levelWater s then 1 else 0), s.store.minutes⟩)

/-! ### The softener (spec/04) -/

/-- The softener asks for the inlet as BRINE_FILL exactly when R82's conditions hold: PENDING, NORMAL, no phase in
FILLING, no leak, no inhibit, no retry block. It then enters BRINE_FILL, as holder with the brine volume as target
when the inlet is grantable and as waiter otherwise (R82, spec/02 R37). FLUSH is entered from WAIT_WINDOW with
neither leak nor inhibit and in NORMAL (R93, spec/08 R164: for a job's window the model's reading, log 48), through an open
window that is not paused, else stand-alone in IDLE or READY and with the door closed; the brine-charged flag is cleared and
the flush timer loaded (R85 to R87). Outside WAIT_WINDOW, under leak or inhibit, in SERVICE and in QUIET it does nothing. -/
def Obligations.BrineFillAndFlushEnter : Prop :=
  (∀ s : State,
    (s.soft.state = .pending → s.sup.mode = .normal → runningStage s ≠ some .filling → leakPresent s = false →
        inhibited s = false → s.soft.retryBlock = false →
        ∃ t, exec .brineFillRequest s = .next t ∧ t.soft = { s.soft with state := .brineFill } ∧
          (grantable s = true → t.water.holder = some .brine) ∧
          (grantable s = false → t.water.waitSoft = some .brine) ∧
          t.water.softCounter.map (·.target) = some s.cal.brineVolume ∧ t.cal = s.cal ∧ t.sup = s.sup) ∧
      (s.soft.state ≠ .pending ∨ s.sup.mode ≠ .normal ∨ runningStage s = some .filling ∨ leakPresent s = true ∨
          inhibited s = true ∨ s.soft.retryBlock = true →
        exec .brineFillRequest s = .next s)) ∧
  (∀ s : State, s.soft.state ≠ .waitWindow ∨ leakPresent s = true ∨ inhibited s = true ∨ s.sup.mode ≠ .normal →
    exec .flushEntry s = .next s) ∧
  (∀ s : State, s.soft.state = .waitWindow → leakPresent s = false → inhibited s = false →
    (∀ j, s.therm.drain = some j → j.window = true → drainHeld s j = false → s.sup.mode = .normal →
        ∃ t, exec .flushEntry s = .next t ∧ t.soft =
          { s.soft with state := .flush, charged := false, flush := some (s.cal.flushTime * 1000)
                        window := if j.kind = .phase then .phase else .cancel }) ∧
      ((∀ j, s.therm.drain = some j → j.window = false ∨ drainHeld s j = true) →
        s.prog.state = .idle ∨ s.prog.state = .ready → s.sup.mode = .normal → doorClosed s = true →
        ∃ t, exec .flushEntry s = .next t ∧ t.soft =
          { s.soft with state := .flush, charged := false, flush := some (s.cal.flushTime * 1000)
                        window := .standAlone }) ∧
      ((∀ j, s.therm.drain = some j → j.window = false ∨ drainHeld s j = true) →
        (s.prog.state ≠ .idle ∧ s.prog.state ≠ .ready) ∨ s.sup.mode ≠ .normal ∨ doorClosed s = false →
        exec .flushEntry s = .next s))

/-- The dissolve timer's expiry samples the salt switch for the restore factor, sets the brine-charged flag and
enters WAIT_WINDOW (R84); with no timer running nothing happens. The flush timer expires only while the brine valve
is open; the softener then goes to the arbiter as RESIN_RINSE with the rinse volume as target (R87). A stand-alone
tail's expiry ends the tail (R86). -/
def Obligations.SoftenerTimersExpire : Prop :=
  (∀ s : State,
    (s.soft.dissolve = none → exec .dissolveExpiry s = .next s) ∧
      (s.soft.dissolve ≠ none →
        exec .dissolveExpiry s = .next { s with soft :=
          { s.soft with dissolve := none, charged := true, state := .waitWindow
                        factor := if s.mon.salt.state = true then s.cal.lowSalt else 100 } })) ∧
  (∀ s : State,
    (s.soft.flush ≠ none → s.soft.state = .flush → brineFinal s = true →
        ∃ t, exec .flushTimerExpiry s = .next t ∧
          t.soft = { s.soft with state := .resinRinse, flush := none } ∧
          (grantable s = true → t.water.holder = some .rinse) ∧
          (grantable s = false → t.water.waitSoft = some .rinse) ∧
          t.water.softCounter.map (·.target) = some s.cal.rinseVolume) ∧
      (brineFinal s = false ∨ s.soft.flush = none → exec .flushTimerExpiry s = .next s) ∧
      (s.soft.tail ≠ none → ∃ t, exec .standAloneTailExpiry s = .next t ∧
        t.soft = { s.soft with tail := none } ∧ t.cal = s.cal ∧ t.sup = s.sup) ∧
      (s.soft.tail = none → exec .standAloneTailExpiry s = .next s))

/-- REGENERATE (R81): IDLE becomes PENDING; in PENDING the brine retry block is cleared; in every other state it is
refused with STATE. The salt switch (R95): a delivered "no salt" begins SALT_EMPTY on every port, a delivered "salt"
ends the condition; a reading that is already there changes nothing (log 11), and a first reading "salt" only sets
the state. -/
def Obligations.RegenerateAndSalt : Prop :=
  (∀ (p : Port) (s : State), reaches p .panelService s →
    (s.soft.state = .idle → exec (.regenerate p) s =
        .next (answer p Reply.ok { s with soft := { s.soft with state := .pending } })) ∧
      (s.soft.state = .pending → exec (.regenerate p) s =
        .next (answer p Reply.ok { s with soft := { s.soft with retryBlock := false } })) ∧
      (s.soft.state ≠ .idle → s.soft.state ≠ .pending →
        exec (.regenerate p) s = .next (answer p (Reply.refused .state) s))) ∧
  (∀ s : State,
    (s.mon.salt.read = false ∨ s.mon.salt.state = false →
        exec (.saltSwitchChange true) s = .next (raiseAll .saltEmpty
          { s with mon := { s.mon with salt := ⟨true, true, true, 0⟩ }
                   notes := { s.notes with conditions := { s.notes.conditions with saltEmpty := true } } })) ∧
      (s.mon.salt.read = true → s.mon.salt.state = true →
        exec (.saltSwitchChange true) s = .next s ∧
        exec (.saltSwitchChange false) s = .next
          { s with mon := { s.mon with salt := ⟨false, false, true, 0⟩ }
                   notes := { s.notes with conditions := { s.notes.conditions with saltEmpty := false } } }) ∧
      (s.mon.salt.read = false → exec (.saltSwitchChange false) s =
        .next { s with mon := { s.mon with salt := ⟨false, false, true, 0⟩ } }))

/-! ### Doses (spec/05) -/

/-- The detergent plan of a final fill record (R104, R105, R107): W, base, scaled, the clamp and its field, the
strokes and the carry. The rinse-aid plan (R106): at level 0 nothing is dosed, no stroke planned and the carry
untouched; at another level the plan is the level times Ur, clamped, and takes no account of the fill. -/
def Obligations.PlansFollowTheirFormulas : Prop :=
  (∀ (s : State) (x : FillRecord), s.water.record = some x →
    ∃ k pl cl cin cout n, (planDetergent s).1 =
        ⟨.detergent, some ⟨pl, cl, cin, cout⟩, some s.prog.soilClass, s.cal.vsD, n, 0, 0, 0, some k⟩ ∧
      (planDetergent s).2 = cout ∧ cin = s.dose.carryD ∧
      k.w = x.v * s.cal.bd + s.cal.kh * (x.vSoft * min s.cal.hardness s.cal.hres + x.vHard * s.cal.hardness) ∧
      k.base = k.w / 1000 ∧
      k.scaled = k.base * (match s.prog.soilClass with
        | 0 => s.cal.f0 | 1 => s.cal.f1 | 2 => s.cal.f2 | 3 => s.cal.f3) / 100 ∧
      (s.cal.dminD ≤ s.cal.dmaxD → pl = max s.cal.dminD (min s.cal.dmaxD k.scaled)) ∧
      (cl = .min ↔ k.scaled ≤ s.cal.dminD) ∧
      (cl = .max ↔ s.cal.dminD < k.scaled ∧ s.cal.dmaxD < k.scaled) ∧
      n = (pl + s.dose.carryD) / s.cal.vsD ∧ cout = pl + s.dose.carryD - n * s.cal.vsD) ∧
  (∀ s : State,
    (s.cal.rinseLevel = 0 → (planRinse s).2 = s.dose.carryR ∧ (planRinse s).1.amounts = none ∧
        (planRinse s).1.planned = 0) ∧
      (s.cal.rinseLevel ≠ 0 → s.cal.dminR ≤ s.cal.dmaxR →
        ∃ a, (planRinse s).1.amounts = some a ∧
          a.plan = max s.cal.dminR (min s.cal.dmaxR (s.cal.rinseLevel * s.cal.ur)) ∧
          (planRinse s).1.planned = (a.plan + s.dose.carryR) / s.cal.vsR ∧
          (planRinse s).2 = a.plan + s.dose.carryR - (planRinse s).1.planned * s.cal.vsR ∧
          a.carryIn = s.dose.carryR ∧ a.carryOut = (planRinse s).2) ∧
      (planRinse s).1.reservoir = .rinseAid)

/-- With every calibration in its range and a fill record of at most 8800 mL split exactly, the detergent arithmetic
stays within the bounds of Table 5-4, so each value fits 32 bits (R104). -/
def Obligations.DoseArithmeticStaysInBounds : Prop :=
  ∀ (c : Settings) (soil : Fin 4) (v vSoft vHard : Nat), c.sound → v ≤ 8800 → vSoft + vHard = v →
    v * c.bd ≤ 88000000 ∧ c.kh * (vSoft * min c.hardness c.hres + vHard * c.hardness) ≤ 123200000 ∧
      (detergentWorking c soil v vSoft vHard).w ≤ 211200000 ∧
      (detergentWorking c soil v vSoft vHard).base ≤ 211200 ∧
      (detergentWorking c soil v vSoft vHard).base * soilFactor c soil ≤ 42240000 ∧
      (detergentWorking c soil v vSoft vHard).scaled ≤ 422400 ∧
      (∀ carry, carry < c.vsD →
        (clampPlan (detergentWorking c soil v vSoft vHard).scaled c.dminD c.dmaxD).1 + carry ≤ 60999 ∧
        1 ≤ (strokesOf (clampPlan (detergentWorking c soil v vSoft vHard).scaled c.dminD c.dmaxD).1 carry c.vsD).1 ∧
        (strokesOf (clampPlan (detergentWorking c soil v vSoft vHard).scaled c.dminD c.dmaxD).1 carry c.vsD).1 ≤ 600)

/-! ### Dosing (spec/06) -/

/-- A stroke pulse (R117, R121, R126): a stroke in flight is delivered and a run-out of the reservoir ends, both at one
pulse where both run (the model's reading, log 29); with neither, under the pump's override, a known account pays one
calibrated stroke and the service-stroke count rises, held to 65,535 (the model's bound, log 31); else it is ignored. A
stroke timeout needs the pump to run (R118): the stroke and every stroke not yet counted become shortfall, the account
is not charged, and the pump fault stands; a run-out ends with the fault standing and no count changed (R121). Where
both run, the timeout is of the timer that stands higher, of the run-out's when they stand alike (the model's reading,
log 29); with neither it does nothing. The withdrawal at a phase's end CANCELLED or FAULTED (R121): the stroke in flight
is counted delivered and a known account charged, its pump runs out with the stroke's timer (in place of a run-out that
still runs: the model's, log 52), every stroke not yet begun is withdrawn, so that the three counts equal the planned
strokes; with no plan nothing is withdrawn. CANCEL of a phase in DOSING, and the leak that faults it, hand these counts
over and leave no plan and no stroke in flight; the run-out goes on after CANCEL, and the leak's forced layer ends it.
-/
def Obligations.StrokesEndByPulseOrTimeout : Prop :=
  (∀ (r : Reservoir) (s : State),
    (strokeInFlight s r = true → exec (.strokePulse r) s = .next (finish (deliverStroke
        (onReservoir r (fun x => { x with runOut := none }) (setDebounced (strokeInput r) true s))))) ∧
      (∀ pl, s.dose.plan = some pl → s.dosing.stroke ≠ none →
        (deliverStroke s).dosing.stroke = none ∧
        (deliverStroke s).dose.plan = some { pl with delivered := pl.delivered + 1 } ∧
        ((deliverStroke s).dosing.get pl.reservoir).account =
          (if (s.dosing.get pl.reservoir).known = true then (s.dosing.get pl.reservoir).account - pl.stroke
           else (s.dosing.get pl.reservoir).account) ∧
        ∀ q, ((deliverStroke s).dosing.get q).runOut = (s.dosing.get q).runOut) ∧
      (strokeInFlight s r = false → (s.dosing.get r).runOut ≠ none → exec (.strokePulse r) s =
        .next (finish (onReservoir r (fun x => { x with runOut := none })
          (setDebounced (strokeInput r) true s)))) ∧
      (strokeInFlight s r = false → (s.dosing.get r).runOut = none → s.sup.overrides.dose r = true →
        exec (.strokePulse r) s = .next (onReservoir r (fun x =>
          { x with account := if x.known = true then x.account - s.cal.vs r else x.account
                   serviceStrokes := min 65535 (x.serviceStrokes + 1) }) (setDebounced (strokeInput r) true s))) ∧
      (strokeInFlight s r = false → (s.dosing.get r).runOut = none → s.sup.overrides.dose r = false →
        exec (.strokePulse r) s = .next (setDebounced (strokeInput r) true s))) ∧
  (∀ (r : Reservoir) (s : State),
    (pumpFinal s r = false → exec (.strokeTimeout r) s = .next s) ∧
      (strokeInFlight s r = false → (s.dosing.get r).runOut = none → exec (.strokeTimeout r) s = .next s) ∧
      (pumpFinal s r = true → strokeInFlight s r = true →
        (∀ x t, s.dosing.stroke = some x → (s.dosing.get r).runOut = some t → t < x) →
        exec (.strokeTimeout r) s = .next (finish (strokeTimedOut r s))) ∧
      (∀ pl, s.dose.plan = some pl →
        (strokeTimedOut r s).dose.plan =
          some { pl with shortfall := pl.shortfall + (pl.planned - (pl.delivered + pl.shortfall + pl.withdrawn)) } ∧
        (strokeTimedOut r s).dosing = { s.dosing with stroke := none } ∧
        pumpFault (strokeTimedOut r s) r = true) ∧
      (∀ t, pumpFinal s r = true → (s.dosing.get r).runOut = some t →
        (strokeInFlight s r = true → ∀ x, s.dosing.stroke = some x → x ≤ t) →
        exec (.strokeTimeout r) s =
          .next (finish (setPumpFault r none (onReservoir r (fun x => { x with runOut := none }) s))) ∧
        (setPumpFault r none s).dosing = s.dosing ∧ (setPumpFault r none s).dose = s.dose ∧
        ∃ u, exec (.strokeTimeout r) s = .next u ∧ pumpFault u r = true ∧
          (u.dosing.get r).runOut = none ∧ (u.dosing.get r).account = (s.dosing.get r).account ∧ u.soft = s.soft ∧
          u.cal = s.cal ∧ u.sup = s.sup)) ∧
  (∀ (s : State) (p : DosePlan) (t : Nat), s.dose.plan = some p → s.dosing.stroke = some t →
    (withdrawStrokes s).dose.plan = some { p with
        delivered := p.delivered + 1
        withdrawn := p.withdrawn + (p.planned - (p.delivered + 1 + p.shortfall + p.withdrawn)) } ∧
      (withdrawStrokes s).dosing.stroke = none ∧
      ((withdrawStrokes s).dosing.get p.reservoir).runOut = some t ∧
      ((withdrawStrokes s).dosing.get p.reservoir).account =
        (if (s.dosing.get p.reservoir).known = true then (s.dosing.get p.reservoir).account - p.stroke
         else (s.dosing.get p.reservoir).account) ∧
      (∀ q, q ≠ p.reservoir → (withdrawStrokes s).dosing.get q = s.dosing.get q)) ∧
  (∀ (s : State) (p : DosePlan), s.dose.plan = some p → s.dosing.stroke = none →
    (withdrawStrokes s).dose.plan = some { p with
        withdrawn := p.withdrawn + (p.planned - (p.delivered + p.shortfall + p.withdrawn)) } ∧
      (withdrawStrokes s).dosing = s.dosing) ∧
  (∀ s : State, s.dose.plan = none → withdrawStrokes s = s) ∧
  (∀ (s : State) (r : PhaseRecord) (ph : RunningPhase) (p : DosePlan) (t : Nat), runningPhase s = some (r, ph) →
    ph.stage = .dosing → s.dose.plan = some p → s.dosing.stroke = some t →
      (∀ port, reaches port .all s → forcedOff s = false →
        ∃ u, exec (.cancel port) s = .next (answer port Reply.ok u) ∧ u.dose.plan = none ∧ u.dosing.stroke = none ∧
          (u.dosing.get p.reservoir).runOut = some t ∧ pumpFinal u p.reservoir = true) ∧
      (s.mon.leak.state = false → s.sup.mode ≠ .quiet →
        ∃ u, exec .leakOnset s = .next u ∧ u.prog.state = .faulted ∧ u.dose.plan = none ∧ u.dosing.stroke = none ∧
          (∀ q, (u.dosing.get q).runOut = none) ∧ pumpFinal u p.reservoir = false ∧
          ∃ x, u.notes.ring.getLast? = some x ∧ x.tag = r.tag ∧ x.ending = .faulted ∧
            ∀ a, p.amounts = some a →
              (if p.reservoir = .detergent then x.doseD else x.doseR) =
                some ⟨p.planned, p.delivered + 1, p.shortfall,
                  p.withdrawn + (p.planned - (p.delivered + 1 + p.shortfall + p.withdrawn)), a.plan⟩))

/-- The low switch (R123, R125): turning low sets the account to the low mark, known, and begins RES_LOW, the condition
and the notice on every port; a first reading low does so too and brings a known account down to the mark at most;
turning not low ends the condition, and refills the account while the watch is armed (R124). A low reading that is
already there changes nothing (log 11). The cap switch (R124): an opening sets the opened flag and disarms the watch;
a closing with the flag set refills the account when the low switch reads not low and arms the watch with 10 s when it
reads low; one with the flag clear changes no account. The watch's expiry disarms it. -/
def Obligations.LowAndCapSwitchesSetTheAccount : Prop :=
  (∀ (r : Reservoir) (s : State),
    ((s.mon.get (lowInput r)).read = true → (s.mon.get (lowInput r)).state = false →
        ∃ t, exec (.lowSwitchChange r true) s = .next t ∧
          (t.dosing.get r) = { s.dosing.get r with account := s.cal.lowMark r * 1000, known := true } ∧
          t.notes.conditions = { s.notes.conditions with
            resLowD := decide (r = .detergent) || s.notes.conditions.resLowD
            resLowR := decide (r = .rinseAid) || s.notes.conditions.resLowR } ∧
          (∀ p k, (t.notes.get p).count k =
            if k = resLow r then min 15 ((s.notes.get p).count k + 1) else (s.notes.get p).count k) ∧
          t.dose = s.dose ∧ t.soft = s.soft ∧ t.prog = s.prog) ∧
      ((s.mon.get (lowInput r)).read = false →
        ∃ t, exec (.lowSwitchChange r true) s = .next t ∧
          (t.dosing.get r) = { s.dosing.get r with
            account := if (s.dosing.get r).known = true then min (s.dosing.get r).account (s.cal.lowMark r * 1000)
                       else s.cal.lowMark r * 1000
            known := true } ∧
          t.notes.conditions = { s.notes.conditions with
            resLowD := decide (r = .detergent) || s.notes.conditions.resLowD
            resLowR := decide (r = .rinseAid) || s.notes.conditions.resLowR } ∧
          (∀ p k, (t.notes.get p).count k =
            if k = resLow r then min 15 ((s.notes.get p).count k + 1) else (s.notes.get p).count k)) ∧
      ((s.mon.get (lowInput r)).read = true → (s.mon.get (lowInput r)).state = true →
        exec (.lowSwitchChange r true) s = .next s ∧
        ∃ t, exec (.lowSwitchChange r false) s = .next t ∧
          (t.dosing.get r) = (if (s.dosing.get r).watch ≠ none
            then { s.dosing.get r with account := s.cal.nominal r * 1000, known := true, watch := none }
            else s.dosing.get r) ∧
          t.notes = { s.notes with conditions := { s.notes.conditions with
            resLowD := !decide (r = .detergent) && s.notes.conditions.resLowD
            resLowR := !decide (r = .rinseAid) && s.notes.conditions.resLowR } } ∧
          t.dose = s.dose ∧ t.soft = s.soft ∧ t.prog = s.prog)) ∧
  (∀ (r : Reservoir) (s : State),
    (((s.mon.get (capInput r)).read = false ∨ (s.mon.get (capInput r)).state = false) →
        ∃ t, exec (.capSwitchChange r true) s = .next t ∧
          (t.dosing.get r) = { s.dosing.get r with opened := true, watch := none } ∧ t.dose = s.dose ∧
          t.notes = s.notes ∧ t.prog = s.prog) ∧
      ((s.mon.get (capInput r)).read = true → (s.mon.get (capInput r)).state = true →
        ∃ t, exec (.capSwitchChange r false) s = .next t ∧
          (t.dosing.get r) =
            (if (s.dosing.get r).opened = false then s.dosing.get r
             else if (s.mon.get (lowInput r)).state = true
             then { s.dosing.get r with opened := false, watch := some 10000 }
             else { s.dosing.get r with opened := false, account := s.cal.nominal r * 1000, known := true }) ∧
          t.dose = s.dose ∧ t.notes = s.notes ∧ t.prog = s.prog) ∧
      exec (.refillWatchExpiry r) s = .next (onReservoir r (fun x => { x with watch := none }) s))

/-! ### The stages of a running phase (spec/01 1.4, 1.5) -/

/-- The hold-cause rules (R21, R22, R24): after an event DOOR is in the set of a wet phase whose door reads open or whose
rod is not home, no other cause is added or removed, and while the set is not empty the phase stays in its stage. The
stage order (R18 to R20): when an end is reported and the set is empty, FILLING goes on to DOSING with a plan when a
dose flag is set; FILLING without one and DOSING go on to HEATING, skipped without a heat target, and skipped with
"heat skipped" while SENSOR_TEMP or HEATER stands; HEATING to HOLDING with the hold timer loaded, HOLDING to DRAINING
with its drain job and circulation ended; the DRY stages to the stage that is named. DRAINING, with the tank-wet flag
cleared, and RETRACTING end the phase DONE: the next head begins in its first stage, or the program ends in IDLE with
PROGRAM_END after PHASE_DONE (R5, R13, R15). The commands carry this out: the hold timer's expiry leads to DRAINING, the
drain's tail expiry to the next phase or to IDLE. -/
def Obligations.StagesFollowTheirOrder : Prop :=
  (∀ (s : State) (r : PhaseRecord) (ph : RunningPhase), runningPhase s = some (r, ph) →
    suspended s = true ∨ (r.kind.wet = true ∧ (doorClosed s = false ∨ rodHome s = false)) →
      (finish s).prog.state = .running ∧ (finish s).prog.queue = s.prog.queue ∧
        (finish s).prog.phase.map (·.stage) = some ph.stage ∧
        (finish s).prog.holds = { s.prog.holds with
          door := s.prog.holds.door || (r.kind.wet && !(doorClosed s && rodHome s)) }) ∧
  (∀ (s : State) (r : PhaseRecord) (ph : RunningPhase), runningPhase s = some (r, ph) →
    (ph.stageEnd = none ∨ suspended s = true → stepStage s = s) ∧
      (∀ e, ph.stageEnd = some e → suspended s = false →
        (ph.stage = .filling → r.doses = true →
          (∃ x, (stepStage s).prog.phase = some x ∧ x.stage = .dosing) ∧ (stepStage s).dose.plan ≠ none ∧
          (stepStage s).therm.wanted = r.zones.map firstZone) ∧
        (ph.stage = .dosing ∨ (ph.stage = .filling ∧ r.doses = false) →
          ∃ x, (stepStage s).prog.phase = some x ∧
            x.stage = (if r.heatTarget.isSome = true ∧ s.notes.standing.sensorTemp = false ∧
              s.notes.standing.heater = false then .heating else .holding) ∧
            x.heatSkipped = (ph.heatSkipped || (r.heatTarget.isSome &&
              (s.notes.standing.sensorTemp || s.notes.standing.heater)))) ∧
        (ph.stage = .heating →
          (∃ x, (stepStage s).prog.phase = some x ∧ x.stage = .holding ∧ x.heated = ph.heated) ∧
          (r.holdTime ≠ 0 → (stepStage s).therm.hold = some (r.holdTime * 1000))) ∧
        (ph.stage = .holding →
          (∃ x, (stepStage s).prog.phase = some x ∧ x.stage = .draining ∧ x.stageEnd = none) ∧
          (stepStage s).therm = { s.therm with
            regulator := none, rise := none, hold := none, wanted := none, alternate := none
            drain := some ⟨.phase, if levelWater s then .pumping else .tailing, 0, 0, r.regenWindow⟩ }) ∧
        (ph.stage = .dryWait ∨ ph.stage = .opening ∨ ph.stage = .airing ∨ ph.stage = .retracting →
          ∀ next, e = .goto next → next = .opening ∨ next = .airing ∨ next = .retracting →
            (stepStage s).prog.phase.map (·.stage) = some next) ∧
        (ph.stage = .draining → (stepStage s).prog.tankWet = false) ∧
        (ph.stage = .draining ∨ (ph.stage = .retracting ∧ e = .done) →
          (stepStage s).prog.queue = s.prog.queue.tail ∧
          (∀ p, ((stepStage s).notes.get p).count .phaseDone = min 15 ((s.notes.get p).count .phaseDone + 1)) ∧
          (s.prog.queue.tail = [] → (stepStage s).prog.state = .idle ∧ (stepStage s).prog.phase = none ∧
            (stepStage s).prog.soilClass = s.prog.soilClass ∧
            ∀ p, ((stepStage s).notes.get p).count .programEnd =
              min 15 ((s.notes.get p).count .programEnd + 1)) ∧
          (∀ r2 rest, s.prog.queue.tail = r2 :: rest → (stepStage s).prog.state = .running ∧
            (stepStage s).prog.phase.map (·.stage) = some (if r2.kind.wet = true then .filling else .dryWait) ∧
            ∀ p, ((stepStage s).notes.get p).count .programEnd = (s.notes.get p).count .programEnd)))) ∧
  (∀ (s : State) (r : PhaseRecord) (ph : RunningPhase), runningPhase s = some (r, ph) →
    ph.stageEnd = none → suspended s = false → doorClosed s = true → rodHome s = true →
      (∀ x, ph.stage = .holding → s.therm.hold ≠ none → ∃ t, exec (.holdTimerExpiry x) s = .next t ∧
        t.prog.phase.map (·.stage) = some .draining ∧ t.prog.queue = s.prog.queue ∧
        t.therm.drain = some ⟨.phase, if levelWater s then .pumping else .tailing, 0, 0, r.regenWindow⟩) ∧
      (∀ j, ph.stage = .draining → s.therm.drain = some j → j.kind = .phase → j.state = .tailing →
        extension s = false →
        (s.prog.queue = [r] → s.sup.overrides.inlet = false →
          ∃ t, exec .drainTailExpiry s = .next t ∧ t.prog.state = .idle ∧ t.prog.queue = [] ∧
            t.prog.tankWet = false ∧ t.therm.drain = none ∧
            ∀ p, (t.notes.get p).count .phaseDone = min 15 ((s.notes.get p).count .phaseDone + 1) ∧
              (t.notes.get p).count .programEnd = min 15 ((s.notes.get p).count .programEnd + 1)) ∧
        (∀ r2 rest, s.prog.queue = r :: r2 :: rest → r2.kind.wet = true →
          ∃ t, exec .drainTailExpiry s = .next t ∧ t.prog.state = .running ∧ t.prog.queue = r2 :: rest ∧
            t.prog.phase.map (·.stage) = some .filling)))

/-! ### The door rod (spec/07) -/

/-- An encoder event (R130, R131), with or without a motion: a step of one line moves the count by 1, up on the four
outward transitions of R130's table and down on the four inward ones, held to -32,768..32,767, in every state; a change
of both lines adds 1 to the invalid total and leaves the count. With no motion nothing else follows; in a motion an
invalid transition is counted, and the third ends it ENCODER with the rod unreferenced and ENCODER standing, whether a
program runs or not. A valid transition in a motion ends an outward MOVE that drives above 1500 counts OVERTRAVEL,
logged (R141), and fails an approach at 2000 counts of inward travel (R134); otherwise the stall and settle timers start
again (of a paused motion too: the model's, log 40) and a motion that drives forms its drive state anew by the table of
R140, SLOW for an approach. What the end means to a DRY phase is O34. A delivered closing of the home switch ends an
approach in progress REFERENCED: the motion is over with that outcome for its client, the count is 0, the rod is
referenced and REFERENCE_FAIL stands no more (R133). Without an approach the closing changes no reference, and a
delivered opening changes none either. -/
def Obligations.EncoderAndHomeSwitchSetTheCount : Prop :=
  (∀ (a b : Bool) (s : State),
    (a = s.rod.encA → b = s.rod.encB → exec (.encoderEvent a b) s = .next s) ∧
      (a ≠ s.rod.encA → b ≠ s.rod.encB → s.rod.motion = none → exec (.encoderEvent a b) s = .next (finish
        { s with rod := { s.rod with invalidTotal := min 65535 (s.rod.invalidTotal + 1), encA := a, encB := b } })) ∧
      ((a ≠ s.rod.encA ∧ b = s.rod.encB) ∨ (a = s.rod.encA ∧ b ≠ s.rod.encB) → s.rod.motion = none →
        exec (.encoderEvent a b) s = .next (finish { s with rod := { s.rod with
          encA := a, encB := b
          count := max (-32768) (min 32767 (s.rod.count + encoderStep s.rod.encA s.rod.encB a b)) } })) ∧
      ((a ≠ s.rod.encA ∧ b = s.rod.encB) ∨ (a = s.rod.encA ∧ b ≠ s.rod.encB) →
        exec (.encoderEvent a b) s = .next (finish (validStep a b s)) ∧
        (validStep a b s).rod.count =
          max (-32768) (min 32767 (s.rod.count + encoderStep s.rod.encA s.rod.encB a b)) ∧
        (validStep a b s).rod.encA = a ∧ (validStep a b s).rod.encB = b) ∧
      (a ≠ s.rod.encA → b ≠ s.rod.encB → exec (.encoderEvent a b) s = .next (finish (invalidStep a b s)) ∧
        (invalidStep a b s).rod.count = s.rod.count ∧
        (invalidStep a b s).rod.invalidTotal = min 65535 (s.rod.invalidTotal + 1) ∧
        (invalidStep a b s).rod.encA = a ∧ (invalidStep a b s).rod.encB = b ∧
        (∀ m, s.rod.motion = some m → m.invalids < 2 →
          (invalidStep a b s).rod.motion = some { m with invalids := m.invalids + 1 } ∧
          (invalidStep a b s).notes = s.notes) ∧
        (∀ m, s.rod.motion = some m → 2 ≤ m.invalids →
          (invalidStep a b s).notes.standing.encoder = true ∧ (invalidStep a b s).rod.referenced = false ∧
          (s.prog.state ≠ .running → (invalidStep a b s).rod.motion = none ∧
            (invalidStep a b s).rod.last = some (.encoder, m.client)) ∧
          invalidStep a b s = encoderEnd { s with rod := { s.rod with
            invalidTotal := min 65535 (s.rod.invalidTotal + 1), encA := a, encB := b
            motion := some { m with invalids := m.invalids + 1 } } }))) ∧
  (∀ (a b : Bool) (s : State) (m : Motion) (n : Int), s.rod.motion = some m →
    n = max (-32768) (min 32767 (s.rod.count + encoderStep s.rod.encA s.rod.encB a b)) →
    (∀ slot target slow stop, m.kind = .move slot target slow stop →
        (m.direction = .outward → m.paused = false → m.drive = .fast ∨ m.drive = .slow → 1500 < n →
          validStep a b s = endMotion .overtravel (logFault .overtravel .doorOpener (some n)
            { s with rod := { s.rod with count := n, encA := a, encB := b } })) ∧
        (m.direction = .inward ∨ m.paused = true ∨ m.drive = .settling ∨ m.drive = .retryWait ∨ n ≤ 1500 →
          validStep a b s = { s with rod := { s.rod with
            count := n, encA := a, encB := b
            motion := some { m with
              stallTimer := 0, settle := 0
              drive := if m.paused = false ∧ (m.drive = .fast ∨ m.drive = .slow) then
                  (match m.direction with
                   | .outward => if (target : Int) - stop ≤ n then .settling
                                 else if (target : Int) - slow ≤ n then .slow else .fast
                   | .inward => if n ≤ (target : Int) + stop then .settling
                                else if n ≤ (target : Int) + slow then .slow else .fast)
                else m.drive } } })) ∧
      (∀ start time, m.kind = .approach start time →
        (2000 ≤ start - n →
          validStep a b s = failApproach { s with rod := { s.rod with count := n, encA := a, encB := b } }) ∧
        (start - n < 2000 → validStep a b s = { s with rod := { s.rod with
          count := n, encA := a, encB := b
          motion := some { m with
            stallTimer := 0, settle := 0
            drive := if m.paused = false ∧ (m.drive = .fast ∨ m.drive = .slow) then .slow else m.drive } } }))) ∧
  (encoderStep false false true false = 1 ∧ encoderStep true false true true = 1 ∧
    encoderStep true true false true = 1 ∧ encoderStep false true false false = 1 ∧
    encoderStep false false false true = -1 ∧ encoderStep true false false false = -1 ∧
    encoderStep true true true false = -1 ∧ encoderStep false true true true = -1) ∧
  (∀ s : State, s.mon.home.read = true → s.mon.home.state = false →
    (approachInProgress s = true →
        exec (.homeSwitchChange true) s =
          .next (finish (endReferenced { s with mon := { s.mon with home := ⟨true, true, true, 0⟩ } })) ∧
        ∃ t, exec (.homeSwitchChange true) s = .next t ∧ t.rod.referenced = true ∧ t.rod.count = 0 ∧
          t.notes.standing.referenceFail = false ∧ t.mon.home.state = true ∧ t.soft = s.soft ∧ t.cal = s.cal ∧
          t.sup = s.sup ∧
          (∀ m, s.rod.motion = some m → s.prog.state ≠ .running →
            t.rod.motion = none ∧ t.rod.last = some (.referenced, m.client))) ∧
      (approachInProgress s = false →
        exec (.homeSwitchChange true) s =
          .next (finish { s with mon := { s.mon with home := ⟨true, true, true, 0⟩ } }))) ∧
  (∀ s : State, s.mon.home.read = true → s.mon.home.state = true →
    exec (.homeSwitchChange false) s =
      .next (finish { s with mon := { s.mon with home := ⟨false, false, true, 0⟩ } }))

/-- An approach that reaches a limit fails (R134): FAILED, REFERENCE_FAIL standing, the referenced flag as it was
(clear, but for a SERVICE approach on a referenced rod, where the model keeps it: log 47); the approach time counts only
for an approach that is not paused. A settled move ends IN_POSITION within 15 counts of its target and MISS beyond; the
settle timer runs in SETTLING alone (R140). The DRY timers (R144, R147): the DRY_WAIT expiry names OPENING and the
airing expiry RETRACTING, each only in its stage, before its end is reported, and while the phase is not suspended. A
motion that ends with an outcome is over, with that outcome for its client, and the DRY phase is told (R139): in a wet
stage, in DRY_WAIT and AIRING, with the stage's end already reported, with no phase, and for a CANCEL or SERVICE motion
this changes nothing more. In OPENING the end of a START approach brings the decision of R145: closed drying on an
unreferenced rod or under REFERENCE_FAIL, otherwise a MOVE to the open slot with outward allowed; the end of the DRY
MOVE names the next stage by the table of R146, and the command carries it out. RETRACTING decides by the five cases of
R148, and the end of its motion ends the stage by case 2 or 5. FAILED, STUCK and ENCODER set and log their fault first,
unless it stands (R131, R134, R142). -/
def Obligations.RodTimersEndTheirWork : Prop :=
  (∀ (s : State) (m : Motion), s.rod.motion = some m →
    (m.isApproach = true → m.paused = false →
        exec .approachTimeLimit s = .next (finish (failApproach s)) ∧
        (s.prog.state ≠ .running →
          (failApproach s).rod = { s.rod with motion := none, last := some (.failed, m.client) }) ∧
        (failApproach s).notes.standing.referenceFail = true ∧
        (s.notes.standing.referenceFail = true → (failApproach s).notes = s.notes)) ∧
      (m.isApproach = false ∨ m.paused = true → exec .approachTimeLimit s = .next s)) ∧
  (∀ (s : State) (m : Motion) (slot target slow stop : Nat), s.rod.motion = some m →
    m.kind = .move slot target slow stop →
    (m.drive = .settling → (s.rod.count - (target : Int)).natAbs ≤ 15 →
        exec .settleTimerExpiry s = .next (finish (endMotion .inPosition s))) ∧
      (m.drive = .settling → 15 < (s.rod.count - (target : Int)).natAbs →
        exec .settleTimerExpiry s = .next (finish (endMotion .miss s))) ∧
      (m.drive ≠ .settling → exec .settleTimerExpiry s = .next s) ∧
      (∀ o, s.prog.state ≠ .running →
        endMotion o s = { s with rod := { s.rod with motion := none, last := some (o, m.client) } })) ∧
  (∀ (s : State) (r : PhaseRecord) (ph : RunningPhase), runningPhase s = some (r, ph) → ph.stageEnd = none →
    (ph.stage = .dryWait → suspended s = false → s.rod.dryWait ≠ none →
        exec .dryWaitExpiry s = .next (finish
          { s with rod := { s.rod with dryWait := none }
                   prog := { s.prog with phase := some { ph with stageEnd := some (.goto .opening) } } })) ∧
      (ph.stage = .airing → suspended s = false → s.rod.airing ≠ none →
        exec .airingExpiry s = .next (finish
          { s with rod := { s.rod with airing := none }
                   prog := { s.prog with phase := some { ph with stageEnd := some (.goto .retracting) } } })) ∧
      (suspended s = true → exec .dryWaitExpiry s = .next s ∧ exec .airingExpiry s = .next s)) ∧
  (∀ s : State,
    ((∀ r ph, runningPhase s = some (r, ph) → ph.stage ≠ .dryWait ∨ ph.stageEnd ≠ none) →
        exec .dryWaitExpiry s = .next s) ∧
      ((∀ r ph, runningPhase s = some (r, ph) → ph.stage ≠ .airing ∨ ph.stageEnd ≠ none) →
        exec .airingExpiry s = .next s)) ∧
  (∀ (s : State) (m : Motion), s.rod.motion = some m →
    (∀ o, endMotion o s = dryMotionEnd m o
        { s with rod := { s.rod with motion := none, last := some (o, m.client) } }) ∧
      endReferenced s = dryMotionEnd m .referenced
        { s with
          rod := { s.rod with count := 0, referenced := true, motion := none, last := some (.referenced, m.client) }
          notes := { s.notes with standing := { s.notes.standing with referenceFail := false } } } ∧
      (m.isApproach = true → s.notes.standing.referenceFail = true → failApproach s = dryMotionEnd m .failed
        { s with rod := { s.rod with motion := none, last := some (.failed, m.client) } }) ∧
      (∀ start time, m.kind = .approach start time → s.notes.standing.referenceFail = false →
        failApproach s = dryMotionEnd m .failed (logFault .referenceFail .doorOpener (some (start - s.rod.count))
          { s with rod := { s.rod with motion := none, last := some (.failed, m.client) }
                   notes := { s.notes with standing := { s.notes.standing with referenceFail := true } } })) ∧
      (s.notes.standing.rodStuck = false →
        stuckEnd s = dryMotionEnd m .stuck (logFault .rodStuck .doorOpener (some s.rod.count)
          { s with rod := { s.rod with motion := none, last := some (.stuck, m.client) }
                   notes := { s.notes with standing := { s.notes.standing with rodStuck := true } } })) ∧
      (s.notes.standing.encoder = false →
        encoderEnd s = dryMotionEnd m .encoder (logFault .encoder .doorOpener (some s.rod.count)
          { s with rod := { s.rod with motion := none, last := some (.encoder, m.client), referenced := false }
                   notes := { s.notes with standing := { s.notes.standing with encoder := true } } })) ∧
      (s.notes.standing.rodStuck = true → stuckEnd s = dryMotionEnd m .stuck
        { s with rod := { s.rod with motion := none, last := some (.stuck, m.client) } }) ∧
      (s.notes.standing.encoder = true → encoderEnd s = dryMotionEnd m .encoder
        { s with rod := { s.rod with motion := none, last := some (.encoder, m.client), referenced := false } })) ∧
  (∀ (s : State) (m : Motion) (o : Outcome),
    (m.client = .cancel ∨ m.client = .service → dryMotionEnd m o s = s) ∧
      ((∀ r ph, runningPhase s = some (r, ph) →
          (ph.stage ≠ .opening ∧ ph.stage ≠ .retracting) ∨ ph.stageEnd ≠ none) → dryMotionEnd m o s = s)) ∧
  (∀ (s : State) (r : PhaseRecord) (ph : RunningPhase), runningPhase s = some (r, ph) → ph.stageEnd = none →
    (s.rod.referenced = false ∨ s.notes.standing.referenceFail = true → decideOpening s =
        { s with rod := { s.rod with closedDrying := true }
                 prog := { s.prog with phase := some { ph with stageEnd := some (.goto .airing) } } }) ∧
      (∀ slot, s.rod.referenced = true → s.notes.standing.referenceFail = false → r.openSlot = some slot →
        decideOpening s = beginMove .dry slot true s) ∧
      (ph.stage = .opening →
        (∀ m o, m.client = .start → dryMotionEnd m o s = decideOpening s) ∧
        (∀ (m : Motion) (slot target slow stop : Nat), m.client = .dry → m.kind = .move slot target slow stop →
          dryMotionEnd m .inPosition s =
            { s with prog := { s.prog with phase := some { ph with stageEnd := some (.goto .airing) } } } ∧
          (∀ o, o = .miss ∨ o = .overtravel ∨ o = .encoder → dryMotionEnd m o s =
            { s with rod := { s.rod with positionMiss := true }
                     prog := { s.prog with phase := some { ph with stageEnd := some (.goto .airing) } } }) ∧
          ((s.cal.releaseLower : Int) ≤ s.rod.count → dryMotionEnd m .obstructed s =
            { s with rod := { s.rod with positionMiss :=
                                s.rod.positionMiss || decide (15 < (s.rod.count - (target : Int)).natAbs) }
                     prog := { s.prog with phase := some { ph with stageEnd := some (.goto .airing) } } }) ∧
          (s.rod.count < (s.cal.releaseLower : Int) → dryMotionEnd m .obstructed s =
            { s with rod := { s.rod with openingBlocked := true }
                     prog := { s.prog with phase := some { ph with stageEnd := some (.goto .retracting) } } }) ∧
          dryMotionEnd m .stuck s =
            { s with rod := { s.rod with openingBlocked := true }
                     prog := { s.prog with phase := some { ph with stageEnd := some (.goto .retracting) } } })) ∧
      (ph.stage = .retracting →
        (∀ (m : Motion) (slot target slow stop : Nat), m.client = .dry → m.kind = .move slot target slow stop →
          dryMotionEnd m .inPosition s =
            { s with prog := { s.prog with phase := some { ph with stageEnd := some .done } } } ∧
          (∀ o, o = .miss ∨ o = .stuck → dryMotionEnd m o s =
            { s with rod := { s.rod with positionMiss := true }
                     prog := { s.prog with phase := some { ph with stageEnd := some .done } } }) ∧
          dryMotionEnd m .encoder s = decideUnreferenced s) ∧
        (∀ m start time, m.client = .dry ∨ m.client = .start → m.kind = .approach start time →
          dryMotionEnd m .referenced s =
            { s with prog := { s.prog with phase := some { ph with stageEnd := some .done } } } ∧
          (∀ o, o = .failed ∨ o = .stuck ∨ o = .encoder → dryMotionEnd m o s =
            { s with rod := { s.rod with positionMiss := true }
                     prog := { s.prog with phase := some { ph with stageEnd := some .done } } }))) ∧
      (s.notes.standing.rodStuck = true → decideRetract s =
        { s with rod := { s.rod with positionMiss := s.rod.positionMiss || !rodHome s }
                 prog := { s.prog with phase := some { ph with stageEnd := some .done } } }) ∧
      (s.notes.standing.rodStuck = false → s.rod.referenced = true → decideRetract s = beginMove .dry 0 false s) ∧
      (s.notes.standing.rodStuck = false → s.rod.referenced = false → decideRetract s = decideUnreferenced s) ∧
      (s.mon.home.state = true → decideUnreferenced s =
        { s with prog := { s.prog with phase := some { ph with stageEnd := some .done } } }) ∧
      (s.mon.home.state = false → s.notes.standing.referenceFail = true → decideUnreferenced s =
        { s with rod := { s.rod with positionMiss := true }
                 prog := { s.prog with phase := some { ph with stageEnd := some .done } } }) ∧
      (s.mon.home.state = false → s.notes.standing.referenceFail = false → decideUnreferenced s = askApproach .dry s)) ∧
  (∀ (s : State) (r : PhaseRecord) (ph : RunningPhase) (m : Motion) (slot target slow stop t : Nat),
    runningPhase s = some (r, ph) → r.kind = .dry → ph.stage = .opening → ph.stageEnd = none → suspended s = false →
    s.rod.motion = some m → m.client = .dry → m.kind = .move slot target slow stop → m.drive = .settling →
    r.airing = some t → t ≠ 0 →
      ∃ u, exec .settleTimerExpiry s = .next u ∧ u.prog.phase.map (·.stage) = some .airing ∧
        u.rod.airing = some (t * 1000) ∧ u.rod.motion = none ∧
        u.rod.positionMiss =
          (s.rod.positionMiss || decide (15 < (s.rod.count - (target : Int)).natAbs)))

/-- A stall of a driven motion (R142): outward the move ends OBSTRUCTED; the first inward stall waits 2 s in
RETRY_WAIT; the second ends the motion STUCK with ROD_STUCK standing. With the motor's final state off nothing
happens. After the wait the motion drives again. -/
def Obligations.StallsRetryOnceThenStick : Prop :=
  ∀ (s : State) (m : Motion), s.rod.motion = some m →
    (motorFinal s = none → exec .motionStall s = .next s) ∧
      (motorFinal s ≠ none → m.direction = .outward →
        exec .motionStall s = .next (finish (endMotion .obstructed s))) ∧
      (motorFinal s ≠ none → m.direction = .inward → m.stalls = 0 →
        exec .motionStall s = .next (finish { s with rod := { s.rod with
          motion := some { m with stalls := 1, drive := .retryWait, retry := 2000, stallTimer := 0 } } })) ∧
      (motorFinal s ≠ none → m.direction = .inward → m.stalls ≠ 0 →
        exec .motionStall s = .next (finish (stuckEnd s)) ∧ (stuckEnd s).notes.standing.rodStuck = true) ∧
      (m.drive = .retryWait → m.paused = false → exec .retryWaitExpiry s = .next (finish { s with rod := { s.rod with
        motion := some { m with drive := driveAt m s.rod.count, retry := 0, stallTimer := 0, settle := 0 } } }))

/-- MOVE ROD and REFERENCE ROD check in the order of R150, each refusal with no change, and begin a SERVICE move to
the slot or ask for a SERVICE approach. A MOVE that begins (R139, R140) withdraws the motion in progress and latches its
slot's target and leads; within the stop lead it goes straight to SETTLING (its direction there: the model's, log 46), else
it drives toward the target, SLOW within the slow lead and FAST beyond, or goes to SETTLING where outward is not allowed. An
approach asked for with the home switch closed ends REFERENCED at once; otherwise it begins inward and slow, with the count
at its start (R133). -/
def Obligations.RodRequestsCheckThenMove : Prop :=
  (∀ (slot : Byte) (s : State), reaches .service .serviceOnly s →
    (s.sup.mode ≠ .service →
        exec (.moveRod .service slot) s = .next (answer .service (Reply.refused .mode) s) ∧
        exec (.referenceRod .service) s = .next (answer .service (Reply.refused .mode) s)) ∧
      (s.sup.mode = .service → 7 < slot.toNat →
        exec (.moveRod .service slot) s = .next (answer .service (Reply.refused .range) s)) ∧
      (s.sup.mode = .service → slot.toNat ≤ 7 → s.rod.motion ≠ none ∨ s.rod.referenced = false →
        exec (.moveRod .service slot) s = .next (answer .service (Reply.refused .state) s)) ∧
      (s.sup.mode = .service → slot.toNat ≤ 7 → s.rod.motion = none → s.rod.referenced = true →
        exec (.moveRod .service slot) s =
          .next (answer .service Reply.ok (finish (beginMove .service slot.toNat true s)))) ∧
      (s.sup.mode = .service → s.rod.motion ≠ none →
        exec (.referenceRod .service) s = .next (answer .service (Reply.refused .state) s)) ∧
      (s.sup.mode = .service → s.rod.motion = none →
        exec (.referenceRod .service) s = .next (answer .service Reply.ok (finish (askApproach .service s))))) ∧
  (∀ (client : MotionClient) (n : Nat) (outward : Bool) (s : State) (h : n < 8), ∃ m,
    (beginMove client n outward s).rod = { s.rod with
      motion := some m
      last := match s.rod.motion with | some x => some (.withdrawn, x.client) | none => s.rod.last } ∧
    { beginMove client n outward s with rod := s.rod } = s ∧
    m.kind = .move n (s.cal.slots[n]).target (s.cal.slots[n]).slowLead (s.cal.slots[n]).stopLead ∧
    m.client = client ∧ m.paused = false ∧ m.stalls = 0 ∧ m.invalids = 0 ∧ m.stallTimer = 0 ∧ m.retry = 0 ∧
    m.settle = 0 ∧
    (s.rod.count < ((s.cal.slots[n]).target : Int) → m.direction = .outward) ∧
    (((s.cal.slots[n]).target : Int) ≤ s.rod.count → m.direction = .inward) ∧
    ((s.rod.count - ((s.cal.slots[n]).target : Int)).natAbs ≤ (s.cal.slots[n]).stopLead → m.drive = .settling) ∧
    (((s.cal.slots[n]).stopLead : Int) < (s.cal.slots[n]).target - s.rod.count →
      m.drive = (if outward = false then .settling
        else if ((s.cal.slots[n]).target : Int) - (s.cal.slots[n]).slowLead ≤ s.rod.count then .slow else .fast)) ∧
    (((s.cal.slots[n]).stopLead : Int) < s.rod.count - (s.cal.slots[n]).target →
      m.drive = (if s.rod.count ≤ ((s.cal.slots[n]).target : Int) + (s.cal.slots[n]).slowLead then .slow else .fast))) ∧
  (∀ (client : MotionClient) (s : State), s.rod.motion = none →
    (s.mon.home.state = true → askApproach client s = { s with
      rod := { s.rod with count := 0, referenced := true, last := some (.referenced, client) }
      notes := { s.notes with standing := { s.notes.standing with referenceFail := false } } }) ∧
    (s.mon.home.state = false → askApproach client s = { s with rod := { s.rod with
      motion := some ⟨.approach s.rod.count 0, client, .inward, .slow, false, 0, 0, 0, 0, 0⟩ } }))

/-! ### Inputs, modes and the forced layer (spec/08) -/

/-- A raw change moves the line and restarts the candidate timer; an unchanged line changes nothing (R153). A change
that is not delivered sets the debounced state and no more, but for the switches that interlocks read (R154): a
first reading of an edge input, or a first reading that finds a condition absent. That door, home and level form
the outputs and DOOR anew, and that a silent update of a change that is always delivered does nothing, are the model's
(log 11). The silent release of a one-way input already read (stroke, detent, index, power-fail, wake key; R153) is not
said here. -/
def Obligations.UndeliveredInputChanges : Prop :=
  (∀ (i : SwitchInput) (v : Bool) (s : State),
    ((s.mon.get i).raw = v → exec (.rawSwitchChange i v) s = .next s) ∧
      ((s.mon.get i).raw ≠ v → ∃ t, exec (.rawSwitchChange i v) s = .next t ∧
        t.mon.get i = { s.mon.get i with raw := v, timer := 0 } ∧
        (∀ j, j ≠ i → t.mon.get j = s.mon.get j) ∧ { t with mon := s.mon } = s)) ∧
  (∀ (i : SwitchInput) (v : Bool) (s : State), (s.mon.get i).read = false →
    ((Instr.debouncedStateSilentUpdate i v).wellFormed = true →
      ∃ t, exec (.debouncedStateSilentUpdate i v) s = .next t ∧
        (t.mon.get i).state = v ∧ (t.mon.get i).read = true ∧ (t.mon.get i).timer = 0 ∧
        (∀ j, j ≠ i → t.mon.get j = s.mon.get j) ∧ t.soft = s.soft ∧ t.cal = s.cal ∧ t.sup = s.sup ∧
        t.ports = s.ports ∧ (i ≠ .door → i ≠ .home → i ≠ .level → { t with mon := s.mon } = s)) ∧
      ((Instr.debouncedStateSilentUpdate i v).wellFormed = false → exec (.debouncedStateSilentUpdate i v) s = .next s))

/-- A delivered opening of the door clears the remote arm and ends DRY_WAIT with AIRING; a delivered closing in
AIRING sets "closed early" and ends it with RETRACTING (R9, R144, R147); the command brings this about on the part as
it is after the wake, since in QUIET the change wakes the part first when DOOR is enabled (R169). -/
def Obligations.DoorChangesActOnArmAndDrying : Prop :=
  (∀ s : State, s.mon.door.read = true →
    (s.mon.door.state = true →
        (∃ t, exec (.doorSwitchChange false) s = .next t ∧ t.prog.arm = false ∧
          doorClosed t = false ∧ t.soft = s.soft ∧ t.cal = s.cal ∧ t.ports = s.ports ∧
          t.sup.mode = (if s.sup.mode = .quiet ∧ s.sup.wake.door = true then .normal else s.sup.mode) ∧
          heaterFinal t = false ∧ circFinal t = 0) ∧
        (∀ w, w = (if s.sup.wake.door = true then wakeUp .door s else s) →
          exec (.doorSwitchChange false) s = .next (finish (doorActs false
            { w with mon := { w.mon with door := ⟨false, false, true, 0⟩ } })))) ∧
      (s.mon.door.state = false →
        (∃ t, exec (.doorSwitchChange true) s = .next t ∧
          doorClosed t = true ∧ t.soft = s.soft ∧ t.cal = s.cal ∧ t.ports = s.ports ∧
          t.sup.mode = (if s.sup.mode = .quiet ∧ s.sup.wake.door = true then .normal else s.sup.mode)) ∧
        (∀ w, w = (if s.sup.wake.door = true then wakeUp .door s else s) →
          exec (.doorSwitchChange true) s = .next (finish (doorActs true
            { w with mon := { w.mon with door := ⟨true, true, true, 0⟩ } }))))) ∧
  (∀ x : State,
    (doorActs false x).prog.arm = false ∧ (doorActs true x).prog.arm = x.prog.arm ∧
      (∀ r ph, runningPhase x = some (r, ph) → ph.stage = .airing → ph.stageEnd = none →
        (doorActs true x).prog.phase = some { ph with stageEnd := some (.goto .retracting) } ∧
        (doorActs true x).rod.closedEarly = true) ∧
      (∀ r ph, runningPhase x = some (r, ph) → ph.stage = .dryWait → ph.stageEnd = none →
        (doorActs false x).prog.phase = some { ph with stageEnd := some (.goto .airing) }) ∧
      (stageOpen x .airing = false → doorActs true x = x) ∧
      (stageOpen x .dryWait = false → doorActs false x = { x with prog := { x.prog with arm := false } }))

/-- A leak onset (R161, R162): the response is ACTIVE, a QUIET part is awake, a READY, DELAYED or RUNNING program is
FAULTED with its arm clear, no other program is, the softener has left BRINE_FILL, FLUSH and RESIN_RINSE, and every
output is off but the drain pump, which is on. -/
def Obligations.LeakOnsetForcesTheOutputs : Prop :=
  ∀ s : State, s.mon.leak.read = false ∨ s.mon.leak.state = false →
    ∃ t, exec .leakOnset s = .next t ∧ t.sup.leak = .active ∧ leakPresent t = true ∧
      t.notes.conditions.leak = true ∧ t.sup.mode ≠ .quiet ∧
      (s.prog.state = .idle → t.prog.state = .idle) ∧ (s.prog.state = .cancelling → t.prog.state ≠ .faulted) ∧
      (s.prog.state = .ready ∨ s.prog.state = .delayed ∨ (s.prog.state = .running ∧ s.sup.mode ≠ .quiet) →
        t.prog.state = .faulted ∧ t.prog.arm = false) ∧ (s.prog.state = .faulted → t.prog.state = .faulted) ∧
      (t.prog.state ≠ .running) ∧
      t.soft.state ≠ .brineFill ∧ t.soft.state ≠ .flush ∧ t.soft.state ≠ .resinRinse ∧
      heaterFinal t = false ∧ inletFinal t = false ∧ routeFinal t = false ∧ brineFinal t = false ∧
      circFinal t = 0 ∧ diverterFinal t = false ∧ pumpFinal t .detergent = false ∧ pumpFinal t .rinseAid = false ∧
      motorFinal t = none ∧ drainFinal t = true ∧ t.sup.overrides = s.sup.overrides ∧ t.cal = s.cal

/-- The end of a leak starts the 60 s after-run with the outputs still forced, and its expiry ends the response
(R161). -/
def Obligations.LeakEndRunsOn : Prop :=
  ∀ s : State,
    (s.mon.leak.read = true → s.mon.leak.state = true → s.sup.leak = .active →
        ∃ t, exec .leakEnd s = .next t ∧ t.sup.leak = .afterRun 60000 ∧ leakPresent t = false ∧
          t.notes.conditions.leak = false ∧ drainFinal t = true ∧ inletFinal t = false ∧ circFinal t = 0 ∧
          t.soft = s.soft ∧ t.cal = s.cal) ∧
      (∀ left, s.sup.leak = .afterRun left → ∃ t, exec .afterRunExpiry s = .next t ∧
        t.sup = { s.sup with leak := .none } ∧ t.soft = s.soft ∧ t.cal = s.cal ∧ t.mon = s.mon) ∧
      (s.sup.leak = .none ∨ s.sup.leak = .active → exec .afterRunExpiry s = .next s)

/-- The overfill response (R158, spec/02 R44): an onset logs OVERFILL with the holder's client (its code: log 26),
begins the condition, ends the holder's fill and a service fill OVERFILL, forces the inlet closed and places the drain
demand; the wash fill of a phase in FILLING is then over with its settle window running. The switch reading open ends
the condition and starts the open timer; its expiry ends the response. -/
def Obligations.OverfillForcesTheInletClosed : Prop :=
  ∀ s : State,
    (s.mon.overfill.read = false ∨ s.mon.overfill.state = false →
        (∃ t, exec .overfillOnset s = .next t ∧ t.sup.overfill = true ∧ t.sup.overfillOpen = none ∧
          t.notes.conditions.overfill = true ∧ inletFinal t = false ∧ drainDemand t = true ∧ t.soft = s.soft ∧
          t.cal = s.cal) ∧
        (∀ x y, x = beginCondition .overfill (fun c => { c with overfill := true })
            (logFault .overfill .waterIntake (s.water.holder.map (fun c =>
              match c with | .wash => 0 | .brine => 1 | .rinse => 2))
              { s with mon := { s.mon with overfill := ⟨true, true, true, 0⟩ } }) →
          y = endServiceOverfill (endHolderFill .overfill x) →
          exec .overfillOnset s =
            .next (finish { y with sup := { y.sup with overfill := true, overfillOpen := none } })) ∧
        (∀ w r ph, s.water.holder = some .wash → s.water.record = some w → w.origin = .wash → w.ending = none →
          runningPhase s = some (r, ph) → ph.stage = .filling → ph.stageEnd = none →
          ∃ t, exec .overfillOnset s = .next t ∧ t.water.record = some { w with ending := some .overfill } ∧
            t.water.holder = none ∧ t.water.window = some ⟨.wash, 2000, none, none⟩ ∧
            t.notes.log = appendLog s.notes.log
              ⟨.overfill, .waterIntake, some r.tag, some 0, s.store.minutes⟩)) ∧
      (s.mon.overfill.read = true → s.mon.overfill.state = true →
        ∃ t, exec .overfillSwitchOpen s = .next t ∧ t.notes.conditions.overfill = false ∧
          t.sup = { s.sup with overfillOpen := if s.sup.overfill = true then some 0 else none } ∧
          t.prog = s.prog ∧ t.water = s.water ∧ t.soft = s.soft ∧ t.cal = s.cal) ∧
      (s.sup.overfillOpen ≠ none → ∃ t, exec .overfillOpenExpiry s = .next t ∧
        t.sup = { s.sup with overfill := false, overfillOpen := none } ∧ t.soft = s.soft ∧ t.cal = s.cal) ∧
      (s.sup.overfillOpen = none → exec .overfillOpenExpiry s = .next s) ∧
      (∀ x r, s.water.holder = some .wash → s.water.record = some r → r.origin = .wash → r.ending = none →
        x = endHolderFill .overfill s → x.water.record = some { r with ending := some .overfill } ∧
        x.water.holder = none ∧ x.water.window = some ⟨.wash, 2000, none, none⟩) ∧
      (∀ r, s.water.record = some r → r.origin = .service → r.ending = none →
        (endServiceOverfill s).water.record = some { r with ending := some .overfill })

/-- The inhibit line (R159, R160): its assertion forces every output off but the drain pump, which follows the
policy, aborts the softener's step and begins INHIBIT, and neither faults the program nor changes the mode; its
release ends the condition. The drain pump under the line: on while the leak response is active; else off under the policy
STOP; else, under RUN, off in QUIET and otherwise on while one of the sources of R73 is present, a held cancel drain's job
among them. -/
def Obligations.InhibitForcesTheOutputs : Prop :=
  ∀ s : State,
    (s.mon.inhibit.read = false ∨ s.mon.inhibit.state = false →
        ∃ t, exec .inhibitAssertion s = .next t ∧ inhibited t = true ∧ t.notes.conditions.inhibit = true ∧
          t.sup = s.sup ∧ (s.prog.state ≠ .faulted → t.prog.state ≠ .faulted) ∧
          t.soft.state ≠ .brineFill ∧ t.soft.state ≠ .flush ∧ t.soft.state ≠ .resinRinse ∧
          heaterFinal t = false ∧ inletFinal t = false ∧ routeFinal t = false ∧ brineFinal t = false ∧
          circFinal t = 0 ∧ diverterFinal t = false ∧ pumpFinal t .detergent = false ∧
          pumpFinal t .rinseAid = false ∧ motorFinal t = none ∧
          (s.sup.leak ≠ .none → drainFinal t = true) ∧
          (s.cal.drainPolicy = .stop → s.sup.leak = .none → drainFinal t = false) ∧
          (s.cal.drainPolicy = .run → s.sup.leak = .none → s.sup.mode = .quiet → drainFinal t = false) ∧
          (s.cal.drainPolicy = .run → s.sup.leak = .none → s.sup.mode ≠ .quiet →
            (drainFinal t = true ↔
              (∃ j, t.therm.drain = some j ∧ (j.kind = .cancel ∨ suspended t = false)) ∨
              (t.soft.window = .standAlone ∧ (t.soft.state = .flush ∨ t.soft.state = .resinRinse)) ∨
              t.soft.tail ≠ none ∨ t.sup.overfill = true ∨ t.sup.overrides.drain = true)) ∧
          (∀ j, s.prog.state = .cancelling → s.therm.drain = some j → j.kind = .cancel → j.state ≠ .dryHeld →
            t.therm.drain = some j) ∧ t.cal = s.cal) ∧
      (s.mon.inhibit.read = true → s.mon.inhibit.state = true →
        ∃ t, exec .inhibitRelease s = .next t ∧ inhibited t = false ∧ t.notes.conditions.inhibit = false ∧
          t.sup = s.sup ∧ t.soft = s.soft ∧ t.cal = s.cal)

/-- The wake key wakes a QUIET part when KEY is enabled, and outside QUIET changes only its own debounced state
(R169). A drop of the service-present line releases the hold and returns SERVICE to NORMAL with every override
released; a rise changes no more than its state (R165, spec/11 R201). ENTER QUIET checks in the order of R167, each
refusal with no change, and sets the mode; SET WAKE SOURCES replaces the set (R169) by the four low bits of its byte
(the model's reading, log 25). A press of a key that reads pressed acts like any other (log 11). -/
def Obligations.WakeKeyServiceLineAndQuiet : Prop :=
  (∀ s : State,
    (∃ t, exec .wakeKeyPress s = .next t ∧
        t.sup.mode = (if s.sup.mode = .quiet ∧ s.sup.wake.key = true then .normal else s.sup.mode) ∧
        t.sup.lastWake = (if s.sup.mode = .quiet ∧ s.sup.wake.key = true then some .key else s.sup.lastWake) ∧
        t.mon.wakeKey.state = true ∧ t.soft = s.soft ∧ t.cal = s.cal ∧ t.ports = s.ports ∧
        (s.sup.mode ≠ .quiet ∨ s.sup.wake.key = false → { t with mon := s.mon } = s)) ∧
      (s.mon.servicePresent.read = true → s.mon.servicePresent.state = true →
        ∃ t, exec (.servicePresentChange false) s = .next t ∧ t.ports.hold = false ∧
          t.mon.servicePresent.state = false ∧
          t.sup = (if s.sup.mode = .service then { s.sup with mode := .normal, overrides := Overrides.none }
                   else s.sup) ∧
          t.soft = s.soft ∧ t.cal = s.cal) ∧
      (s.mon.servicePresent.read = true → s.mon.servicePresent.state = false →
        exec (.servicePresentChange true) s =
          .next { s with mon := { s.mon with servicePresent := ⟨true, true, true, 0⟩ } })) ∧
  (∀ (p : Port) (x : Byte) (s : State), reaches p .panelService s →
    (s.sup.mode = .service → exec (.enterQuiet p) s = .next (answer p (Reply.refused .mode) s)) ∧
      (s.sup.mode = .normal → s.prog.state = .running ∨ s.prog.state = .cancelling ∨ s.prog.state = .faulted →
        exec (.enterQuiet p) s = .next (answer p (Reply.refused .state) s)) ∧
      (s.sup.mode = .normal → s.prog.state = .idle ∨ s.prog.state = .ready ∨ s.prog.state = .delayed →
        (s.rod.motion ≠ none ∨ s.soft.state = .brineFill ∨ s.soft.state = .flush ∨ s.soft.state = .resinRinse →
          exec (.enterQuiet p) s = .next (answer p (Reply.refused .state) s)) ∧
        (s.rod.motion = none → s.soft.state ≠ .brineFill → s.soft.state ≠ .flush → s.soft.state ≠ .resinRinse →
          leakPresent s = true → exec (.enterQuiet p) s = .next (answer p (Reply.refused .leak) s)) ∧
        (s.rod.motion = none → s.soft.state ≠ .brineFill → s.soft.state ≠ .flush → s.soft.state ≠ .resinRinse →
          leakPresent s = false → ∃ t, exec (.enterQuiet p) s = .next (answer p Reply.ok t) ∧
            t.sup = { s.sup with mode := .quiet } ∧ t.soft = s.soft ∧ t.cal = s.cal ∧ t.mon = s.mon ∧
            t.prog.state = s.prog.state ∧ t.prog.queue = s.prog.queue ∧ t.prog.arm = s.prog.arm)) ∧
      exec (.setWakeSources p x) s = .next (answer p Reply.ok { s with sup :=
        { s.sup with wake := ⟨x.getLsbD 0, x.getLsbD 1, x.getLsbD 2, x.getLsbD 3⟩ } }))

/-- The service hold and SERVICE (R164, R165, spec/11 R201): TAKE HOLD needs the service-present line; ENTER SERVICE
needs the hold, an IDLE program, a softener at rest, no rod motion and no run-out, and sets both service-stroke
counts to 0; LEAVE SERVICE and RELEASE HOLD return to NORMAL with every override released. -/
def Obligations.HoldAndServiceModes : Prop :=
  ∀ s : State, reaches .service .serviceOnly s →
    exec (.takeHold .service) s = (if s.mon.servicePresent.state = true
        then .next (answer .service Reply.ok { s with ports := { s.ports with hold := true } })
        else .next (answer .service (Reply.refused .state) s)) ∧
      (s.sup.mode = .service → exec (.enterService .service) s = .next (answer .service Reply.ok s)) ∧
      (s.sup.mode = .normal → s.ports.hold = false ∨ s.prog.state ≠ .idle ∨ s.soft.state = .brineFill ∨
          s.soft.state = .flush ∨ s.soft.state = .resinRinse ∨ s.rod.motion ≠ none ∨
          s.dosing.detergent.runOut ≠ none ∨ s.dosing.rinseAid.runOut ≠ none →
        exec (.enterService .service) s = .next (answer .service (Reply.refused .state) s)) ∧
      (s.sup.mode = .normal → s.ports.hold = true → s.prog.state = .idle → s.soft.state ≠ .brineFill →
        s.soft.state ≠ .flush → s.soft.state ≠ .resinRinse → s.rod.motion = none →
        s.dosing.detergent.runOut = none → s.dosing.rinseAid.runOut = none →
        exec (.enterService .service) s = .next (answer .service Reply.ok
          { s with sup := { s.sup with mode := .service }
                   dosing := { s.dosing with detergent := { s.dosing.detergent with serviceStrokes := 0 }
                                             rinseAid := { s.dosing.rinseAid with serviceStrokes := 0 } } })) ∧
      (s.sup.mode = .normal → exec (.leaveService .service) s = .next (answer .service Reply.ok s)) ∧
      (s.sup.mode = .service → ∃ t, exec (.leaveService .service) s = .next (answer .service Reply.ok t) ∧
        t.sup = { s.sup with mode := .normal, overrides := Overrides.none } ∧ t.ports = s.ports ∧
        t.soft = s.soft ∧ t.cal = s.cal ∧ t.mon = s.mon) ∧
      (∃ t, exec (.releaseHold .service) s = .next (answer .service Reply.ok t) ∧ t.ports.hold = false ∧
        (s.ports.hold = true → s.sup.mode = .service →
          t.sup = { s.sup with mode := .normal, overrides := Overrides.none }) ∧
        (s.sup.mode = .normal → t = { s with ports := { s.ports with hold := false } }))

/-- OVERRIDE OUTPUT (R166, spec/11 R202): refused with MODE outside SERVICE and with RANGE for an output above 8; a
circulation level above 4 is held to 4 and answered CLAMPED; a value of 0 releases and any other sets the override
named, and no other override changes. A level sent while another is set takes its place (the model's, log 51). -/
def Obligations.OverrideSetsOneOutput : Prop :=
  ∀ (output value : Byte) (s : State), reaches .service .serviceOnly s →
    (s.sup.mode ≠ .service →
        exec (.overrideOutput .service output value) s = .next (answer .service (Reply.refused .mode) s)) ∧
      (s.sup.mode = .service → 9 ≤ output.toNat →
        exec (.overrideOutput .service output value) s = .next (answer .service (Reply.refused .range) s)) ∧
      (s.sup.mode = .service → output.toNat < 9 →
        ∃ t, exec (.overrideOutput .service output value) s =
            .next (answer .service (if output = 4 ∧ 4 < value.toNat then Reply.clamped else Reply.ok) t) ∧
          t.sup = { s.sup with overrides :=
            ⟨if output = 0 then decide (value ≠ 0) else s.sup.overrides.heater,
             if output = 1 then decide (value ≠ 0) else s.sup.overrides.inlet,
             if output = 2 then decide (value ≠ 0) else s.sup.overrides.route,
             if output = 3 then decide (value ≠ 0) else s.sup.overrides.brine,
             if output = 4 then min 4 value.toNat else s.sup.overrides.circulation,
             if output = 5 then decide (value ≠ 0) else s.sup.overrides.drain,
             if output = 6 then decide (value ≠ 0) else s.sup.overrides.doseD,
             if output = 7 then decide (value ≠ 0) else s.sup.overrides.doseR,
             if output = 8 then decide (value ≠ 0) else s.sup.overrides.diverter⟩ } ∧
          t.soft = s.soft ∧ t.cal = s.cal ∧ t.mon = s.mon ∧ t.ports = s.ports)

/-- The final state of every output (R156, R157, Table 8-3), on and off. Off whatever is demanded, the drain pump apart:
while the leak response is active, the inhibit line asserted or the mode QUIET. Otherwise on under its service override
or its job demand, and the inlet valve only with no overfill response, the brine valve only while the drain pump runs
(R87), the circulation pump only with the door closed, the rod home and water at the level switch, its override
replacing the demanded level (R62), the heater only under R61's conditions with the latch clear (R60). The job demands
are spelled out: the inlet's holder with a remaining count and, for the wash, a wet phase that is not suspended (R40);
the route's brine fill and its settle window (R41; at the tank for a whole service fill: the model's, log 28); FLUSH in
a window that is not paused (R87); the circulating stages (R62); the regulator (R55); the diverter outside its wanted
set (R65, R67); a stroke or a run-out (R115, R121); the motion that drives (R140, R143). The drain pump takes the first
row of Table 3-4 that applies, over the sources of R73. While leak and inhibit are tracked, the inlet valve is open only
while the arbiter has a holder or a service override demands it, and never while the leak input or the inhibit line is
asserted; and the brine valve only while the drain pump runs (R40, R87). That the motor drives outward only in OPENING
or SERVICE is O59. -/
def Obligations.ValvesOpenOnlyUnderTheirRules : Prop :=
  (∀ s : State, leakTracked s →
    (inletFinal s = true → (s.water.holder ≠ none ∨ s.sup.overrides.inlet = true) ∧ leakPresent s = false ∧
        inhibited s = false ∧ s.sup.overfill = false) ∧
      (brineFinal s = true → drainFinal s = true ∧
        (s.soft.state = .flush ∨ s.sup.overrides.brine = true) ∧ leakPresent s = false ∧ inhibited s = false) ∧
      (leakPresent s = true → drainFinal s = true ∧ circFinal s = 0 ∧ heaterFinal s = false)) ∧
  (∀ s : State, s.sup.leak ≠ .none ∨ inhibited s = true ∨ s.sup.mode = .quiet →
    heaterFinal s = false ∧ inletFinal s = false ∧ routeFinal s = false ∧ brineFinal s = false ∧ circFinal s = 0 ∧
      (∀ r, pumpFinal s r = false) ∧ diverterFinal s = false ∧ motorFinal s = none) ∧
  (∀ s : State, s.sup.leak = .none → inhibited s = false → s.sup.mode ≠ .quiet →
    (inletFinal s = true ↔ s.sup.overfill = false ∧ (s.sup.overrides.inlet = true ∨
        (s.water.holder = some .wash ∧ suspended s = false ∧
          (∃ r ph, runningPhase s = some (r, ph) ∧ r.kind ≠ .dry) ∧
          ∃ k, s.water.record = some k ∧ ∀ target, k.target = some target → k.v < target) ∨
        ((s.water.holder = some .brine ∨ s.water.holder = some .rinse) ∧
          ∃ c, s.water.softCounter = some c ∧ c.v < c.target))) ∧
      (routeFinal s = true ↔ s.sup.overrides.route = true ∨ (s.sup.overrides.inlet = false ∧
        (s.water.holder = some .brine ∨ ∃ w, s.water.window = some w ∧ w.owner = .brine))) ∧
      (brineFinal s = true ↔ drainFinal s = true ∧ (s.sup.overrides.brine = true ∨
        (s.soft.state = .flush ∧ (s.soft.window = .phase → suspended s = false) ∧
          (s.soft.window = .cancel → leakPresent s = false)))) ∧
      (doorClosed s = false ∨ rodHome s = false ∨ levelWater s = false → circFinal s = 0) ∧
      (doorClosed s = true → rodHome s = true → levelWater s = true →
        (s.sup.overrides.circulation ≠ 0 → circFinal s = s.sup.overrides.circulation) ∧
        (s.sup.overrides.circulation = 0 → circFinal s = circDemand s)) ∧
      (heaterFinal s = true ↔ (s.sup.overrides.heater = true ∨ (s.therm.regulator = some true ∧ suspended s = false)) ∧
        levelWater s = true ∧ 1 ≤ circFinal s ∧ doorClosed s = true ∧ rodHome s = true ∧ s.therm.latch = false ∧
        leakPresent s = false) ∧
      (diverterFinal s = true ↔ s.sup.overrides.diverter = true ∨
        ((runningStage s = some .dosing ∨ runningStage s = some .heating ∨ runningStage s = some .holding) ∧
          suspended s = false ∧ s.notes.standing.diverterStall = false ∧
          ∃ z, s.therm.wanted = some z ∧ ∀ p, s.therm.position = some p →
            p ∉ (match z with | .both => [0, 3] | .lower => [1] | .upper => [2] : List (Fin 4)))) ∧
      (∀ r, pumpFinal s r = true ↔ s.sup.overrides.dose r = true ∨ (s.dosing.get r).runOut ≠ none ∨
        (s.dosing.stroke ≠ none ∧ ∃ p, s.dose.plan = some p ∧ p.reservoir = r)) ∧
      (∀ d fast, motorFinal s = some (d, fast) ↔ ∃ m, s.rod.motion = some m ∧ m.paused = false ∧ m.direction = d ∧
        m.drive = (if fast then .fast else .slow))) ∧
  (∀ s : State,
    (∀ r ph, runningPhase s = some (r, ph) → suspended s = false →
        ph.stage = .dosing ∨ ph.stage = .heating ∨ ph.stage = .holding → circDemand s = r.pumpLevel.getD 0) ∧
      (suspended s = true ∨ (∀ r ph, runningPhase s = some (r, ph) →
          ph.stage ≠ .dosing ∧ ph.stage ≠ .heating ∧ ph.stage ≠ .holding) → circDemand s = 0) ∧
      (s.sup.leak ≠ .none → drainFinal s = true) ∧
      (s.sup.leak = .none → inhibited s = true → s.cal.drainPolicy = .stop → drainFinal s = false) ∧
      (s.sup.leak = .none → s.sup.mode = .quiet → drainFinal s = false) ∧
      (s.sup.leak = .none → inhibited s = false ∨ s.cal.drainPolicy = .run → s.sup.mode ≠ .quiet →
        (drainFinal s = true ↔
          (∃ j, s.therm.drain = some j ∧ (j.kind = .cancel ∨ suspended s = false)) ∨
          (s.soft.window = .standAlone ∧ (s.soft.state = .flush ∨ s.soft.state = .resinRinse)) ∨
          s.soft.tail ≠ none ∨ s.sup.overfill = true ∨ s.sup.overrides.drain = true)))

/-! ### Settings and the record store (spec/09) -/

/-- SET HARDNESS and SET RINSE LEVEL hold their value to the top of the range, answering CLAMPED; a value that
changes the setting raises SETTING_CHANGED on the two other ports and triggers a checkpoint, an equal one does
neither (R176, R177). -/
def Obligations.SettingRequestsHoldTheRange : Prop :=
  ∀ (p : Port) (x : Byte) (s : State), reaches p .panelService s →
    exec (.setHardness p x) s = .next (answer p (if 70 < x.toNat then Reply.clamped else Reply.ok)
        (if min 70 x.toNat = s.cal.hardness then s
         else settingChanged p { s with cal := { s.cal with hardness := min 70 x.toNat } })) ∧
      exec (.setRinseLevel p x) s = .next (answer p (if 6 < x.toNat then Reply.clamped else Reply.ok)
        (if min 6 x.toNat = s.cal.rinseLevel then s
         else settingChanged p { s with cal := { s.cal with rinseLevel := min 6 x.toNat } })) ∧
      (∀ q k, ((settingChanged p s).notes.get q).count k =
        if k = .settingChanged ∧ q ≠ p then min 15 ((s.notes.get q).count k + 1) else (s.notes.get q).count k) ∧
      { settingChanged p s with notes := s.notes, store := s.store } = s ∧
      (s.store.writing = none → powerFailing s = false → (settingChanged p s).store.writing ≠ none) ∧
      (s.store.writing ≠ none → (settingChanged p s).store.again = true)

/-- WRITE CALIBRATION (R175): an item that names no calibration, a slot above 7 of a per-slot item, and a value that
is no name of a named item are refused with RANGE and change nothing; another value is held to its range, and
refused with RANGE when it would break its relation; a value equal to the live one changes nothing; a change is
stored, its immediate effect follows, and then the notices and the checkpoint (R177). The immediate effects: a new
Cfull cuts C and a new Cfull or threshold schedules a regeneration in IDLE when C is below T (spec/04 R77, R81, R94); a
new stroke volume zeroes its carry (spec/05 R109); a new nominal volume cuts its account (spec/06 R114); a held low-salt
restore factor takes the new one (log 41); a new leak polarity clears the debounced state, takes LEAK from every set,
ends a leak that was present and passes the response to its after-run (spec/08 R155); a new home bound or drain policy
acts through the outputs; no other item has one. -/
def Obligations.WriteCalibrationChecksThenStores : Prop :=
  (∀ (item slot : Byte) (value : Word32) (s : State), reaches .service .serviceOnly s →
    (calRange item.toNat slot.toNat = none → exec (.writeCalibration .service item slot value) s =
        .next (answer .service (Reply.refused .range) s)) ∧
      (31 ≤ item.toNat → item.toNat ≤ 33 → 7 < slot.toNat → exec (.writeCalibration .service item slot value) s =
        .next (answer .service (Reply.refused .range) s)) ∧
      (item = 36 ∨ item = 37 → 1 < value.toNat → exec (.writeCalibration .service item slot value) s =
        .next (answer .service (Reply.refused .range) s)) ∧
      (∀ lo hi, calRange item.toNat slot.toNat = some (lo, hi) →
        (31 ≤ item.toNat → item.toNat ≤ 33 → slot.toNat ≤ 7) → (item = 36 ∨ item = 37 → value.toNat ≤ 1) →
        (calRelation (calStore s.cal item.toNat slot.toNat (max lo (min hi value.toNat))) item.toNat = false →
          exec (.writeCalibration .service item slot value) s =
            .next (answer .service (Reply.refused .range) s)) ∧
        (calRelation (calStore s.cal item.toNat slot.toNat (max lo (min hi value.toNat))) item.toNat = true →
          exec (.writeCalibration .service item slot value) s = .next (answer .service
            (if value.toNat < lo ∨ hi < value.toNat then Reply.clamped else Reply.ok)
            (if max lo (min hi value.toNat) = calValue s.cal item.toNat slot.toNat then s
             else settingChanged .service (calEffect item.toNat { s with
               cal := calStore s.cal item.toNat slot.toNat (max lo (min hi value.toNat)) })))))) ∧
  (∀ s : State,
    (calEffect 4 s = { s with soft := { s.soft with
        c := min s.soft.c s.cal.cfull
        state := if s.soft.state = .idle ∧ min s.soft.c s.cal.cfull < s.cal.cfull * s.cal.thr / 100 then .pending
                 else s.soft.state } }) ∧
      (calEffect 5 s = { s with soft := { s.soft with
        state := if s.soft.state = .idle ∧ s.soft.c < s.cal.cfull * s.cal.thr / 100 then .pending
                 else s.soft.state } }) ∧
      (calEffect 10 s = { s with soft := { s.soft with
        factor := if s.soft.factor = 100 then 100 else s.cal.lowSalt } }) ∧
      (calEffect 25 s = { s with dose := { s.dose with carryD := 0 } }) ∧
      (calEffect 26 s = { s with dose := { s.dose with carryR := 0 } }) ∧
      (calEffect 29 s = { s with dosing := { s.dosing with detergent :=
        { s.dosing.detergent with account := min s.dosing.detergent.account (s.cal.nominalD * 1000) } } }) ∧
      (calEffect 30 s = { s with dosing := { s.dosing with rinseAid :=
        { s.dosing.rinseAid with account := min s.dosing.rinseAid.account (s.cal.nominalR * 1000) } } }) ∧
      calEffect 34 s = finish s ∧ calEffect 37 s = finish s ∧
      (leakPresent (calEffect 36 s) = false ∧ (calEffect 36 s).mon.leak.raw = s.mon.leak.raw ∧
        (calEffect 36 s).sup = { s.sup with
          leak := if leakPresent s = true ∧ s.sup.leak = .active then .afterRun 60000 else s.sup.leak } ∧
        (runningPhase s = none →
          (leakPresent s = true → (calEffect 36 s).notes.conditions.leak = false) ∧
          (∀ p k, ((calEffect 36 s).notes.get p).count k = if k = .leak then 0 else (s.notes.get p).count k) ∧
          (calEffect 36 s).notes.log = s.notes.log)) ∧
      (∀ item, item ∉ [4, 5, 10, 25, 26, 29, 30, 34, 36, 37] → calEffect item s = s))

/-- Checkpoints (R178 to R181): a trigger begins a write of the values as they stand, with a fresh image while a RESTART with
FRESH_RESIN waits (the model's reading for every such write, log 18), or sets AGAIN while one is in
flight or the power-fail warning is asserted; a completion stores exactly the image formed and begins the further
write that AGAIN asks for; STORE NOW triggers one. The power-fail warning (R180): a write begins at once with its
image formed at the assertion, a write in flight being abandoned, AGAIN is clear and FRESH_RESIN plays no part. The
operating minute adds 1, held to the top, and restarts its timer (R174). -/
def Obligations.CheckpointsWriteAndCoalesce : Prop :=
  (∀ s : State,
    (∀ p, reaches p .panelService s → exec (.storeNow p) s = .next (answer p Reply.ok (trigger s))) ∧
      (s.store.writing = none → powerFailing s = false → trigger s = { s with store := { s.store with
        stored := none, writing := some (formImage (freshWaiting s) s), again := false } }) ∧
      (s.store.writing ≠ none ∨ powerFailing s = true →
        trigger s = { s with store := { s.store with again := true } }) ∧
      (s.store.writing = none → exec .checkpointComplete s = .next s) ∧
      (∀ img, s.store.writing = some img →
        (s.store.again = true → powerFailing s = false →
          ∃ t, exec .checkpointComplete s = .next t ∧ t.store.again = false ∧
            t.store.writing = some (formImage (freshWaiting s) s) ∧ { t with store := s.store } = s) ∧
        (s.store.again = false ∨ powerFailing s = true → s.store.restart = none →
          exec .checkpointComplete s =
            .next { s with store := { s.store with stored := some img, writing := none } }))) ∧
  (∀ s : State,
    (∃ t, exec .powerFailWarning s = .next t ∧ t.mon.powerFail = ⟨true, true, true, 0⟩ ∧
        t.store = { s.store with stored := none, writing := some (formImage false s), again := false } ∧
        { t with mon := s.mon, store := s.store } = s) ∧
      exec .operatingMinute s = .next { s with store :=
        { s.store with minutes := min 4294967295 (s.store.minutes + 1), minuteTimer := 0 } })

/-- RESTART (R184): taken, it waits with its mark and triggers a checkpoint; a second one is absorbed; with the
warning asserted and no write in flight the part resets at once; otherwise it resets at the completion that finds no
further write to begin. -/
def Obligations.RestartWaitsForItsWrite : Prop :=
  ∀ (mark : Byte) (s : State), reaches .service .serviceOnly s →
    (s.store.restart ≠ none → exec (.restart .service mark) s = .next (answer .service Reply.ok s)) ∧
      (s.store.restart = none → s.store.writing ≠ none → exec (.restart .service mark) s =
        .next (answer .service Reply.ok
          { s with store := { s.store with restart := some (mark.getLsbD 0), again := true } })) ∧
      (s.store.restart = none → s.store.writing = none → powerFailing s = false →
        exec (.restart .service mark) s = .next (answer .service Reply.ok { s with store := { s.store with
          restart := some (mark.getLsbD 0), stored := none, writing := some (formImage (mark.getLsbD 0) s),
          again := false } })) ∧
      (s.store.restart = none → s.store.writing = none → powerFailing s = true →
        exec (.restart .service mark) s = .next (resetPart (answer .service Reply.ok
          { s with store := { s.store with restart := some (mark.getLsbD 0), again := true } }))) ∧
      (∀ img, s.store.restart ≠ none → s.store.writing = some img → s.store.again = false ∨ powerFailing s = true →
        exec .checkpointComplete s =
          .next (resetPart { s with store := { s.store with stored := some img, writing := none } }))

/-- Power-on and the reset pin act alike (R182, R183): a matching image is loaded, each item to its owner, with
POWER_RETURN for a program mark and no checkpoint; without one the defaults are loaded, STORE_LOST is logged and
raised, and a checkpoint begins. In both the program is IDLE with an empty queue, the mode NORMAL, the rod
unreferenced at count 0, the inputs unread, the ports idle and the ring and the standing set empty. -/
def Obligations.ResetFormsEveryBlock : Prop :=
  ∀ s : State,
    exec .resetPin s = exec .powerOn s ∧
      (∃ t, exec .powerOn s = .next t ∧ t.prog = Program.reset ∧ t.water = Water.reset ∧ t.therm = Thermal.reset ∧
        t.rod = Rod.reset s.rod.encA s.rod.encB ∧ t.sup = Supervisor.reset ∧ t.mon = s.mon.unreadAll ∧
        t.ports = Ports.reset ∧ t.notes.ring = [] ∧ t.notes.standing = Standing.none ∧
        t.notes.conditions = Conditions.none ∧ t.store.restart = none ∧ t.pending = s.pending) ∧
      (∀ img, s.store.stored = some img →
        ∃ t, exec .powerOn s = .next t ∧ t.cal = img.settings ∧ t.soft.c = img.c ∧ t.soft.charged = img.charged ∧
          t.soft.regenCount = img.regenCount ∧ t.soft.factor = img.settings.lowSalt ∧
          t.soft.state = (if img.charged then .waitWindow
            else if img.c < img.settings.cfull * img.settings.thr / 100 then .pending else .idle) ∧
          t.dose = ⟨img.carryD, img.carryR, none⟩ ∧ t.dosing.detergent.account = img.accountD ∧
          t.dosing.detergent.known = img.knownD ∧ t.dosing.rinseAid.account = img.accountR ∧
          t.dosing.rinseAid.known = img.knownR ∧ t.notes.log = img.faultLog ∧
          t.notes.next = img.sequence + 1 ∧ t.store.minutes = img.minutes ∧ t.store.outcome = .loaded ∧
          t.store.writing = none ∧
          (∀ p k, (t.notes.get p).count k = if k = .powerReturn ∧ img.programMark = true then 1 else 0)) ∧
      (s.store.stored = none →
        ∃ t, exec .powerOn s = .next t ∧ t.cal = Settings.defaults ∧ t.soft.c = 0 ∧ t.soft.state = .pending ∧
          t.dose = ⟨0, 0, none⟩ ∧ t.dosing.detergent.known = false ∧ t.dosing.rinseAid.known = false ∧
          t.notes.log = [⟨.storeLost, .recordStore, none, none, 0⟩] ∧ t.notes.next = 1 ∧
          t.store.minutes = 0 ∧ t.store.outcome = .defaults ∧ t.store.writing ≠ none ∧
          (∀ p k, (t.notes.get p).count k = if k = .storeLost ∨ k = .fault then 1 else 0))

/-! ### Notices and faults (spec/10) -/

/-- ACK NOTICES removes from its own port's set each kind but a level kind whose condition is present, and lists in
its answer the kinds removed with their counts; the port's attention line follows the set that remains; the other
sets and everything else stay (R188). SET NOTICE MASK replaces its port's mask alone (R189). -/
def Obligations.AcknowledgeAndMaskActOnOnePort : Prop :=
  ∀ (p : Port) (kinds : BitVec 24) (s : State), reaches p .all s →
    (∃ t bytes, exec (.ackNotices p) s = .next (answer p ⟨.ok, false, 0, bytes⟩ t) ∧
        (∀ k, (t.notes.get p).count k =
          if (k = .leak ∧ s.notes.conditions.leak = true) ∨ (k = .overfill ∧ s.notes.conditions.overfill = true) ∨
             (k = .inhibit ∧ s.notes.conditions.inhibit = true) ∨
             (k = .saltEmpty ∧ s.notes.conditions.saltEmpty = true) ∨
             (k = .resLowD ∧ s.notes.conditions.resLowD = true) ∨
             (k = .resLowR ∧ s.notes.conditions.resLowR = true)
          then (s.notes.get p).count k else 0) ∧
        (t.notes.get p).mask = (s.notes.get p).mask ∧ (∀ q, q ≠ p → t.notes.get q = s.notes.get q) ∧
        (attention t p = true ↔
          ∃ k : NoticeKind, (t.notes.get p).count k ≠ 0 ∧ (s.notes.get p).mask.getLsbD k.bit.val = true) ∧
        t.notes.conditions = s.notes.conditions ∧ t.notes.log = s.notes.log ∧
        t.notes.standing = s.notes.standing ∧ t.notes.ring = s.notes.ring ∧ t.notes.next = s.notes.next ∧
        { t with notes := s.notes } = s ∧
        bytes = set3 (((s.notes.get p).removed s.notes.conditions).map (fun c => c != 0)) ++
          (((s.notes.get p).removed s.notes.conditions).filter (fun c => c != 0)).map (BitVec.ofNat 8)) ∧
      exec (.setNoticeMask p kinds) s = .next (answer p Reply.ok
        { s with notes := s.notes.set p ⟨(s.notes.get p).counts, kinds.setWidth 18⟩ })

/-- CLEAR FAULTS empties the standing set, leaves the log and the slow count, and answers with the codes removed; a
removed SENSOR_TEMP starts the out-of-range timer again from zero when the raw reading is out of range (R193, R53). In every
state the command does this and brings the blocks into line; the notices, the log and the set stay so with no phase running,
with the running phase suspended, and in a stage whose work is under way. -/
def Obligations.ClearFaultsEmptiesTheSet : Prop :=
  (∀ s : State, reaches .service .serviceOnly s →
    exec (.clearFaults .service) s =
      .next (answer .service ⟨.ok, false, 0, b2 (bitsNat s.notes.standing.bits)⟩ (finish { s with
        notes := { s.notes with standing := Standing.none }
        therm := { s.therm with outTimer :=
          if s.notes.standing.sensorTemp = true ∧ s.therm.raw.any (fun r => decide (r < 4 ∨ 196 < r)) = true then some 0
          else s.therm.outTimer } }))) ∧
  (∀ s : State, reaches .service .serviceOnly s →
    (runningPhase s = none ∨ suspended s = true ∨ (∃ r ph, runningPhase s = some (r, ph) ∧ ph.stageEnd = none ∧
      (ph.stage = .dosing → s.dosing.stroke ≠ none) ∧ (ph.stage = .heating → s.therm.regulator ≠ none))) →
    ∃ t, exec (.clearFaults .service) s =
        .next (answer .service ⟨.ok, false, 0, b2 (bitsNat s.notes.standing.bits)⟩ t) ∧
      t.notes = { s.notes with standing := Standing.none } ∧ t.prog.state = s.prog.state ∧
      t.prog.queue = s.prog.queue ∧ t.soft = s.soft ∧ t.cal = s.cal ∧ t.sup = s.sup ∧ t.mon = s.mon) ∧
  (∀ s : State, reaches .service .serviceOnly s → runningPhase s = none →
    ∃ t, exec (.clearFaults .service) s =
        .next (answer .service ⟨.ok, false, 0, b2 (bitsNat s.notes.standing.bits)⟩ t) ∧
      t.notes = { s.notes with standing := Standing.none } ∧ t.therm.slowCount = s.therm.slowCount ∧
      (s.notes.standing.sensorTemp = true → (∃ r, s.therm.raw = some r ∧ (r < 4 ∨ 196 < r)) →
        t.therm.outTimer = some 0) ∧
      t.soft = s.soft ∧ t.cal = s.cal ∧ t.sup = s.sup ∧ t.mon = s.mon)

/-! ### What follows an event, and what every run keeps -/

/-- Right after reset every property of a safe run holds. -/
def Obligations.ResetIsSafe : Prop := safe State.reset

/-- Every step keeps the notice counts at most 15, the fault log at most 3, the result ring at most 16 with
consecutive numbers (R186, R192, R195). -/
def Obligations.StepsKeepNoticesBounded : Prop :=
  ∀ s t : State, notesSound s → step s = .next t → notesSound t

/-- Every step keeps the queue at most 8 records with a DRY record last (R4). -/
def Obligations.StepsKeepTheQueueBounded : Prop :=
  ∀ s t : State, queueSound s → step s = .next t → queueSound t

/-- Every step keeps every setting and calibration in its range with its relations, C within Cfull, each account
within its nominal volume and each carry below its stroke, live and in the images (R77, R98, R100, R114, R122,
R182). -/
def Obligations.StepsKeepTheRecordSound : Prop :=
  ∀ s t : State, recordSound s → step s = .next t → recordSound t

/-- Every step keeps every fill record exact: V is the volume of its pulses, held to target + 800 mL (at the crossing
pulse the model's choice, log 12), and V_soft + V_hard = V (R32, R33). Every step keeps the strokes counted: delivered,
shortfall and withdrawn strokes never exceed the planned ones, a stroke in flight is one of those not yet counted and
belongs to a DOSING in progress, and once the phase has ended the three together equal the planned strokes in its result
(R115, R119, R121). -/
def Obligations.StepsKeepFillsExact : Prop :=
  (∀ s t : State, fillsExact s → step s = .next t → fillsExact t) ∧
    (∀ s t : State, strokesCounted s → step s = .next t → strokesCounted t)

/-- Every step keeps overrides inside SERVICE, SERVICE under the hold with no program RUNNING or DELAYED, and the
hold under the service-present line, which presents absent while it is unread (R154, R164, R165, R201). Every step keeps the outward drive of the door-opener motor to the
OPENING stage of a DRY phase and to a MOVE ROD in SERVICE (R139). -/
def Obligations.StepsKeepServiceConfined : Prop :=
  (∀ s t : State, serviceConfined s → step s = .next t → serviceConfined t) ∧
    (∀ s t : State, outwardConfined s → step s = .next t → outwardConfined t)

/-- Every step keeps the leak response ACTIVE exactly while a leak is present, the two conditions with their inputs,
and the softener out of BRINE_FILL, FLUSH and RESIN_RINSE while leak or inhibit stands (R161, R187, R90, R91). -/
def Obligations.StepsKeepLeakTracked : Prop :=
  ∀ s t : State, leakTracked s → step s = .next t → leakTracked t
end

