-- ==== Sys2Proof/Laws/State.lean ====
section
/-!
SUPPORT. What each block update leaves and what it writes: one lemma per field per update, true by `rfl`.
-/

namespace Sys2Proof.Machine

@[simp] theorem State.onProg_pending (s : State) (f : Program → Program) : (s.onProg f).pending = s.pending := rfl
@[simp] theorem State.onProg_clock (s : State) (f : Program → Program) : (s.onProg f).clock = s.clock := rfl
@[simp] theorem State.onProg_samples (s : State) (f : Program → Program) : (s.onProg f).samples = s.samples := rfl
@[simp] theorem State.onProg_prog (s : State) (f : Program → Program) : (s.onProg f).prog = f s.prog := rfl
@[simp] theorem State.onProg_water (s : State) (f : Program → Program) : (s.onProg f).water = s.water := rfl
@[simp] theorem State.onProg_therm (s : State) (f : Program → Program) : (s.onProg f).therm = s.therm := rfl
@[simp] theorem State.onProg_soft (s : State) (f : Program → Program) : (s.onProg f).soft = s.soft := rfl
@[simp] theorem State.onProg_dose (s : State) (f : Program → Program) : (s.onProg f).dose = s.dose := rfl
@[simp] theorem State.onProg_dosing (s : State) (f : Program → Program) : (s.onProg f).dosing = s.dosing := rfl
@[simp] theorem State.onProg_rod (s : State) (f : Program → Program) : (s.onProg f).rod = s.rod := rfl
@[simp] theorem State.onProg_sup (s : State) (f : Program → Program) : (s.onProg f).sup = s.sup := rfl
@[simp] theorem State.onProg_mon (s : State) (f : Program → Program) : (s.onProg f).mon = s.mon := rfl
@[simp] theorem State.onProg_cal (s : State) (f : Program → Program) : (s.onProg f).cal = s.cal := rfl
@[simp] theorem State.onProg_store (s : State) (f : Program → Program) : (s.onProg f).store = s.store := rfl
@[simp] theorem State.onProg_notes (s : State) (f : Program → Program) : (s.onProg f).notes = s.notes := rfl
@[simp] theorem State.onProg_ports (s : State) (f : Program → Program) : (s.onProg f).ports = s.ports := rfl

@[simp] theorem State.onWater_pending (s : State) (f : Water → Water) : (s.onWater f).pending = s.pending := rfl
@[simp] theorem State.onWater_clock (s : State) (f : Water → Water) : (s.onWater f).clock = s.clock := rfl
@[simp] theorem State.onWater_samples (s : State) (f : Water → Water) : (s.onWater f).samples = s.samples := rfl
@[simp] theorem State.onWater_prog (s : State) (f : Water → Water) : (s.onWater f).prog = s.prog := rfl
@[simp] theorem State.onWater_water (s : State) (f : Water → Water) : (s.onWater f).water = f s.water := rfl
@[simp] theorem State.onWater_therm (s : State) (f : Water → Water) : (s.onWater f).therm = s.therm := rfl
@[simp] theorem State.onWater_soft (s : State) (f : Water → Water) : (s.onWater f).soft = s.soft := rfl
@[simp] theorem State.onWater_dose (s : State) (f : Water → Water) : (s.onWater f).dose = s.dose := rfl
@[simp] theorem State.onWater_dosing (s : State) (f : Water → Water) : (s.onWater f).dosing = s.dosing := rfl
@[simp] theorem State.onWater_rod (s : State) (f : Water → Water) : (s.onWater f).rod = s.rod := rfl
@[simp] theorem State.onWater_sup (s : State) (f : Water → Water) : (s.onWater f).sup = s.sup := rfl
@[simp] theorem State.onWater_mon (s : State) (f : Water → Water) : (s.onWater f).mon = s.mon := rfl
@[simp] theorem State.onWater_cal (s : State) (f : Water → Water) : (s.onWater f).cal = s.cal := rfl
@[simp] theorem State.onWater_store (s : State) (f : Water → Water) : (s.onWater f).store = s.store := rfl
@[simp] theorem State.onWater_notes (s : State) (f : Water → Water) : (s.onWater f).notes = s.notes := rfl
@[simp] theorem State.onWater_ports (s : State) (f : Water → Water) : (s.onWater f).ports = s.ports := rfl

@[simp] theorem State.onTherm_pending (s : State) (f : Thermal → Thermal) : (s.onTherm f).pending = s.pending := rfl
@[simp] theorem State.onTherm_clock (s : State) (f : Thermal → Thermal) : (s.onTherm f).clock = s.clock := rfl
@[simp] theorem State.onTherm_samples (s : State) (f : Thermal → Thermal) : (s.onTherm f).samples = s.samples := rfl
@[simp] theorem State.onTherm_prog (s : State) (f : Thermal → Thermal) : (s.onTherm f).prog = s.prog := rfl
@[simp] theorem State.onTherm_water (s : State) (f : Thermal → Thermal) : (s.onTherm f).water = s.water := rfl
@[simp] theorem State.onTherm_therm (s : State) (f : Thermal → Thermal) : (s.onTherm f).therm = f s.therm := rfl
@[simp] theorem State.onTherm_soft (s : State) (f : Thermal → Thermal) : (s.onTherm f).soft = s.soft := rfl
@[simp] theorem State.onTherm_dose (s : State) (f : Thermal → Thermal) : (s.onTherm f).dose = s.dose := rfl
@[simp] theorem State.onTherm_dosing (s : State) (f : Thermal → Thermal) : (s.onTherm f).dosing = s.dosing := rfl
@[simp] theorem State.onTherm_rod (s : State) (f : Thermal → Thermal) : (s.onTherm f).rod = s.rod := rfl
@[simp] theorem State.onTherm_sup (s : State) (f : Thermal → Thermal) : (s.onTherm f).sup = s.sup := rfl
@[simp] theorem State.onTherm_mon (s : State) (f : Thermal → Thermal) : (s.onTherm f).mon = s.mon := rfl
@[simp] theorem State.onTherm_cal (s : State) (f : Thermal → Thermal) : (s.onTherm f).cal = s.cal := rfl
@[simp] theorem State.onTherm_store (s : State) (f : Thermal → Thermal) : (s.onTherm f).store = s.store := rfl
@[simp] theorem State.onTherm_notes (s : State) (f : Thermal → Thermal) : (s.onTherm f).notes = s.notes := rfl
@[simp] theorem State.onTherm_ports (s : State) (f : Thermal → Thermal) : (s.onTherm f).ports = s.ports := rfl

@[simp] theorem State.onSoft_pending (s : State) (f : Softener → Softener) : (s.onSoft f).pending = s.pending := rfl
@[simp] theorem State.onSoft_clock (s : State) (f : Softener → Softener) : (s.onSoft f).clock = s.clock := rfl
@[simp] theorem State.onSoft_samples (s : State) (f : Softener → Softener) : (s.onSoft f).samples = s.samples := rfl
@[simp] theorem State.onSoft_prog (s : State) (f : Softener → Softener) : (s.onSoft f).prog = s.prog := rfl
@[simp] theorem State.onSoft_water (s : State) (f : Softener → Softener) : (s.onSoft f).water = s.water := rfl
@[simp] theorem State.onSoft_therm (s : State) (f : Softener → Softener) : (s.onSoft f).therm = s.therm := rfl
@[simp] theorem State.onSoft_soft (s : State) (f : Softener → Softener) : (s.onSoft f).soft = f s.soft := rfl
@[simp] theorem State.onSoft_dose (s : State) (f : Softener → Softener) : (s.onSoft f).dose = s.dose := rfl
@[simp] theorem State.onSoft_dosing (s : State) (f : Softener → Softener) : (s.onSoft f).dosing = s.dosing := rfl
@[simp] theorem State.onSoft_rod (s : State) (f : Softener → Softener) : (s.onSoft f).rod = s.rod := rfl
@[simp] theorem State.onSoft_sup (s : State) (f : Softener → Softener) : (s.onSoft f).sup = s.sup := rfl
@[simp] theorem State.onSoft_mon (s : State) (f : Softener → Softener) : (s.onSoft f).mon = s.mon := rfl
@[simp] theorem State.onSoft_cal (s : State) (f : Softener → Softener) : (s.onSoft f).cal = s.cal := rfl
@[simp] theorem State.onSoft_store (s : State) (f : Softener → Softener) : (s.onSoft f).store = s.store := rfl
@[simp] theorem State.onSoft_notes (s : State) (f : Softener → Softener) : (s.onSoft f).notes = s.notes := rfl
@[simp] theorem State.onSoft_ports (s : State) (f : Softener → Softener) : (s.onSoft f).ports = s.ports := rfl

@[simp] theorem State.onDose_pending (s : State) (f : Dose → Dose) : (s.onDose f).pending = s.pending := rfl
@[simp] theorem State.onDose_clock (s : State) (f : Dose → Dose) : (s.onDose f).clock = s.clock := rfl
@[simp] theorem State.onDose_samples (s : State) (f : Dose → Dose) : (s.onDose f).samples = s.samples := rfl
@[simp] theorem State.onDose_prog (s : State) (f : Dose → Dose) : (s.onDose f).prog = s.prog := rfl
@[simp] theorem State.onDose_water (s : State) (f : Dose → Dose) : (s.onDose f).water = s.water := rfl
@[simp] theorem State.onDose_therm (s : State) (f : Dose → Dose) : (s.onDose f).therm = s.therm := rfl
@[simp] theorem State.onDose_soft (s : State) (f : Dose → Dose) : (s.onDose f).soft = s.soft := rfl
@[simp] theorem State.onDose_dose (s : State) (f : Dose → Dose) : (s.onDose f).dose = f s.dose := rfl
@[simp] theorem State.onDose_dosing (s : State) (f : Dose → Dose) : (s.onDose f).dosing = s.dosing := rfl
@[simp] theorem State.onDose_rod (s : State) (f : Dose → Dose) : (s.onDose f).rod = s.rod := rfl
@[simp] theorem State.onDose_sup (s : State) (f : Dose → Dose) : (s.onDose f).sup = s.sup := rfl
@[simp] theorem State.onDose_mon (s : State) (f : Dose → Dose) : (s.onDose f).mon = s.mon := rfl
@[simp] theorem State.onDose_cal (s : State) (f : Dose → Dose) : (s.onDose f).cal = s.cal := rfl
@[simp] theorem State.onDose_store (s : State) (f : Dose → Dose) : (s.onDose f).store = s.store := rfl
@[simp] theorem State.onDose_notes (s : State) (f : Dose → Dose) : (s.onDose f).notes = s.notes := rfl
@[simp] theorem State.onDose_ports (s : State) (f : Dose → Dose) : (s.onDose f).ports = s.ports := rfl

@[simp] theorem State.onDosing_pending (s : State) (f : Dosing → Dosing) : (s.onDosing f).pending = s.pending := rfl
@[simp] theorem State.onDosing_clock (s : State) (f : Dosing → Dosing) : (s.onDosing f).clock = s.clock := rfl
@[simp] theorem State.onDosing_samples (s : State) (f : Dosing → Dosing) : (s.onDosing f).samples = s.samples := rfl
@[simp] theorem State.onDosing_prog (s : State) (f : Dosing → Dosing) : (s.onDosing f).prog = s.prog := rfl
@[simp] theorem State.onDosing_water (s : State) (f : Dosing → Dosing) : (s.onDosing f).water = s.water := rfl
@[simp] theorem State.onDosing_therm (s : State) (f : Dosing → Dosing) : (s.onDosing f).therm = s.therm := rfl
@[simp] theorem State.onDosing_soft (s : State) (f : Dosing → Dosing) : (s.onDosing f).soft = s.soft := rfl
@[simp] theorem State.onDosing_dose (s : State) (f : Dosing → Dosing) : (s.onDosing f).dose = s.dose := rfl
@[simp] theorem State.onDosing_dosing (s : State) (f : Dosing → Dosing) : (s.onDosing f).dosing = f s.dosing := rfl
@[simp] theorem State.onDosing_rod (s : State) (f : Dosing → Dosing) : (s.onDosing f).rod = s.rod := rfl
@[simp] theorem State.onDosing_sup (s : State) (f : Dosing → Dosing) : (s.onDosing f).sup = s.sup := rfl
@[simp] theorem State.onDosing_mon (s : State) (f : Dosing → Dosing) : (s.onDosing f).mon = s.mon := rfl
@[simp] theorem State.onDosing_cal (s : State) (f : Dosing → Dosing) : (s.onDosing f).cal = s.cal := rfl
@[simp] theorem State.onDosing_store (s : State) (f : Dosing → Dosing) : (s.onDosing f).store = s.store := rfl
@[simp] theorem State.onDosing_notes (s : State) (f : Dosing → Dosing) : (s.onDosing f).notes = s.notes := rfl
@[simp] theorem State.onDosing_ports (s : State) (f : Dosing → Dosing) : (s.onDosing f).ports = s.ports := rfl

@[simp] theorem State.onRod_pending (s : State) (f : Rod → Rod) : (s.onRod f).pending = s.pending := rfl
@[simp] theorem State.onRod_clock (s : State) (f : Rod → Rod) : (s.onRod f).clock = s.clock := rfl
@[simp] theorem State.onRod_samples (s : State) (f : Rod → Rod) : (s.onRod f).samples = s.samples := rfl
@[simp] theorem State.onRod_prog (s : State) (f : Rod → Rod) : (s.onRod f).prog = s.prog := rfl
@[simp] theorem State.onRod_water (s : State) (f : Rod → Rod) : (s.onRod f).water = s.water := rfl
@[simp] theorem State.onRod_therm (s : State) (f : Rod → Rod) : (s.onRod f).therm = s.therm := rfl
@[simp] theorem State.onRod_soft (s : State) (f : Rod → Rod) : (s.onRod f).soft = s.soft := rfl
@[simp] theorem State.onRod_dose (s : State) (f : Rod → Rod) : (s.onRod f).dose = s.dose := rfl
@[simp] theorem State.onRod_dosing (s : State) (f : Rod → Rod) : (s.onRod f).dosing = s.dosing := rfl
@[simp] theorem State.onRod_rod (s : State) (f : Rod → Rod) : (s.onRod f).rod = f s.rod := rfl
@[simp] theorem State.onRod_sup (s : State) (f : Rod → Rod) : (s.onRod f).sup = s.sup := rfl
@[simp] theorem State.onRod_mon (s : State) (f : Rod → Rod) : (s.onRod f).mon = s.mon := rfl
@[simp] theorem State.onRod_cal (s : State) (f : Rod → Rod) : (s.onRod f).cal = s.cal := rfl
@[simp] theorem State.onRod_store (s : State) (f : Rod → Rod) : (s.onRod f).store = s.store := rfl
@[simp] theorem State.onRod_notes (s : State) (f : Rod → Rod) : (s.onRod f).notes = s.notes := rfl
@[simp] theorem State.onRod_ports (s : State) (f : Rod → Rod) : (s.onRod f).ports = s.ports := rfl

@[simp] theorem State.onSup_pending (s : State) (f : Supervisor → Supervisor) : (s.onSup f).pending = s.pending := rfl
@[simp] theorem State.onSup_clock (s : State) (f : Supervisor → Supervisor) : (s.onSup f).clock = s.clock := rfl
@[simp] theorem State.onSup_samples (s : State) (f : Supervisor → Supervisor) : (s.onSup f).samples = s.samples := rfl
@[simp] theorem State.onSup_prog (s : State) (f : Supervisor → Supervisor) : (s.onSup f).prog = s.prog := rfl
@[simp] theorem State.onSup_water (s : State) (f : Supervisor → Supervisor) : (s.onSup f).water = s.water := rfl
@[simp] theorem State.onSup_therm (s : State) (f : Supervisor → Supervisor) : (s.onSup f).therm = s.therm := rfl
@[simp] theorem State.onSup_soft (s : State) (f : Supervisor → Supervisor) : (s.onSup f).soft = s.soft := rfl
@[simp] theorem State.onSup_dose (s : State) (f : Supervisor → Supervisor) : (s.onSup f).dose = s.dose := rfl
@[simp] theorem State.onSup_dosing (s : State) (f : Supervisor → Supervisor) : (s.onSup f).dosing = s.dosing := rfl
@[simp] theorem State.onSup_rod (s : State) (f : Supervisor → Supervisor) : (s.onSup f).rod = s.rod := rfl
@[simp] theorem State.onSup_sup (s : State) (f : Supervisor → Supervisor) : (s.onSup f).sup = f s.sup := rfl
@[simp] theorem State.onSup_mon (s : State) (f : Supervisor → Supervisor) : (s.onSup f).mon = s.mon := rfl
@[simp] theorem State.onSup_cal (s : State) (f : Supervisor → Supervisor) : (s.onSup f).cal = s.cal := rfl
@[simp] theorem State.onSup_store (s : State) (f : Supervisor → Supervisor) : (s.onSup f).store = s.store := rfl
@[simp] theorem State.onSup_notes (s : State) (f : Supervisor → Supervisor) : (s.onSup f).notes = s.notes := rfl
@[simp] theorem State.onSup_ports (s : State) (f : Supervisor → Supervisor) : (s.onSup f).ports = s.ports := rfl

@[simp] theorem State.onMon_pending (s : State) (f : Monitor → Monitor) : (s.onMon f).pending = s.pending := rfl
@[simp] theorem State.onMon_clock (s : State) (f : Monitor → Monitor) : (s.onMon f).clock = s.clock := rfl
@[simp] theorem State.onMon_samples (s : State) (f : Monitor → Monitor) : (s.onMon f).samples = s.samples := rfl
@[simp] theorem State.onMon_prog (s : State) (f : Monitor → Monitor) : (s.onMon f).prog = s.prog := rfl
@[simp] theorem State.onMon_water (s : State) (f : Monitor → Monitor) : (s.onMon f).water = s.water := rfl
@[simp] theorem State.onMon_therm (s : State) (f : Monitor → Monitor) : (s.onMon f).therm = s.therm := rfl
@[simp] theorem State.onMon_soft (s : State) (f : Monitor → Monitor) : (s.onMon f).soft = s.soft := rfl
@[simp] theorem State.onMon_dose (s : State) (f : Monitor → Monitor) : (s.onMon f).dose = s.dose := rfl
@[simp] theorem State.onMon_dosing (s : State) (f : Monitor → Monitor) : (s.onMon f).dosing = s.dosing := rfl
@[simp] theorem State.onMon_rod (s : State) (f : Monitor → Monitor) : (s.onMon f).rod = s.rod := rfl
@[simp] theorem State.onMon_sup (s : State) (f : Monitor → Monitor) : (s.onMon f).sup = s.sup := rfl
@[simp] theorem State.onMon_mon (s : State) (f : Monitor → Monitor) : (s.onMon f).mon = f s.mon := rfl
@[simp] theorem State.onMon_cal (s : State) (f : Monitor → Monitor) : (s.onMon f).cal = s.cal := rfl
@[simp] theorem State.onMon_store (s : State) (f : Monitor → Monitor) : (s.onMon f).store = s.store := rfl
@[simp] theorem State.onMon_notes (s : State) (f : Monitor → Monitor) : (s.onMon f).notes = s.notes := rfl
@[simp] theorem State.onMon_ports (s : State) (f : Monitor → Monitor) : (s.onMon f).ports = s.ports := rfl

@[simp] theorem State.onCal_pending (s : State) (f : Settings → Settings) : (s.onCal f).pending = s.pending := rfl
@[simp] theorem State.onCal_clock (s : State) (f : Settings → Settings) : (s.onCal f).clock = s.clock := rfl
@[simp] theorem State.onCal_samples (s : State) (f : Settings → Settings) : (s.onCal f).samples = s.samples := rfl
@[simp] theorem State.onCal_prog (s : State) (f : Settings → Settings) : (s.onCal f).prog = s.prog := rfl
@[simp] theorem State.onCal_water (s : State) (f : Settings → Settings) : (s.onCal f).water = s.water := rfl
@[simp] theorem State.onCal_therm (s : State) (f : Settings → Settings) : (s.onCal f).therm = s.therm := rfl
@[simp] theorem State.onCal_soft (s : State) (f : Settings → Settings) : (s.onCal f).soft = s.soft := rfl
@[simp] theorem State.onCal_dose (s : State) (f : Settings → Settings) : (s.onCal f).dose = s.dose := rfl
@[simp] theorem State.onCal_dosing (s : State) (f : Settings → Settings) : (s.onCal f).dosing = s.dosing := rfl
@[simp] theorem State.onCal_rod (s : State) (f : Settings → Settings) : (s.onCal f).rod = s.rod := rfl
@[simp] theorem State.onCal_sup (s : State) (f : Settings → Settings) : (s.onCal f).sup = s.sup := rfl
@[simp] theorem State.onCal_mon (s : State) (f : Settings → Settings) : (s.onCal f).mon = s.mon := rfl
@[simp] theorem State.onCal_cal (s : State) (f : Settings → Settings) : (s.onCal f).cal = f s.cal := rfl
@[simp] theorem State.onCal_store (s : State) (f : Settings → Settings) : (s.onCal f).store = s.store := rfl
@[simp] theorem State.onCal_notes (s : State) (f : Settings → Settings) : (s.onCal f).notes = s.notes := rfl
@[simp] theorem State.onCal_ports (s : State) (f : Settings → Settings) : (s.onCal f).ports = s.ports := rfl

@[simp] theorem State.onStore_pending (s : State) (f : Store → Store) : (s.onStore f).pending = s.pending := rfl
@[simp] theorem State.onStore_clock (s : State) (f : Store → Store) : (s.onStore f).clock = s.clock := rfl
@[simp] theorem State.onStore_samples (s : State) (f : Store → Store) : (s.onStore f).samples = s.samples := rfl
@[simp] theorem State.onStore_prog (s : State) (f : Store → Store) : (s.onStore f).prog = s.prog := rfl
@[simp] theorem State.onStore_water (s : State) (f : Store → Store) : (s.onStore f).water = s.water := rfl
@[simp] theorem State.onStore_therm (s : State) (f : Store → Store) : (s.onStore f).therm = s.therm := rfl
@[simp] theorem State.onStore_soft (s : State) (f : Store → Store) : (s.onStore f).soft = s.soft := rfl
@[simp] theorem State.onStore_dose (s : State) (f : Store → Store) : (s.onStore f).dose = s.dose := rfl
@[simp] theorem State.onStore_dosing (s : State) (f : Store → Store) : (s.onStore f).dosing = s.dosing := rfl
@[simp] theorem State.onStore_rod (s : State) (f : Store → Store) : (s.onStore f).rod = s.rod := rfl
@[simp] theorem State.onStore_sup (s : State) (f : Store → Store) : (s.onStore f).sup = s.sup := rfl
@[simp] theorem State.onStore_mon (s : State) (f : Store → Store) : (s.onStore f).mon = s.mon := rfl
@[simp] theorem State.onStore_cal (s : State) (f : Store → Store) : (s.onStore f).cal = s.cal := rfl
@[simp] theorem State.onStore_store (s : State) (f : Store → Store) : (s.onStore f).store = f s.store := rfl
@[simp] theorem State.onStore_notes (s : State) (f : Store → Store) : (s.onStore f).notes = s.notes := rfl
@[simp] theorem State.onStore_ports (s : State) (f : Store → Store) : (s.onStore f).ports = s.ports := rfl

@[simp] theorem State.onNotes_pending (s : State) (f : Notes → Notes) : (s.onNotes f).pending = s.pending := rfl
@[simp] theorem State.onNotes_clock (s : State) (f : Notes → Notes) : (s.onNotes f).clock = s.clock := rfl
@[simp] theorem State.onNotes_samples (s : State) (f : Notes → Notes) : (s.onNotes f).samples = s.samples := rfl
@[simp] theorem State.onNotes_prog (s : State) (f : Notes → Notes) : (s.onNotes f).prog = s.prog := rfl
@[simp] theorem State.onNotes_water (s : State) (f : Notes → Notes) : (s.onNotes f).water = s.water := rfl
@[simp] theorem State.onNotes_therm (s : State) (f : Notes → Notes) : (s.onNotes f).therm = s.therm := rfl
@[simp] theorem State.onNotes_soft (s : State) (f : Notes → Notes) : (s.onNotes f).soft = s.soft := rfl
@[simp] theorem State.onNotes_dose (s : State) (f : Notes → Notes) : (s.onNotes f).dose = s.dose := rfl
@[simp] theorem State.onNotes_dosing (s : State) (f : Notes → Notes) : (s.onNotes f).dosing = s.dosing := rfl
@[simp] theorem State.onNotes_rod (s : State) (f : Notes → Notes) : (s.onNotes f).rod = s.rod := rfl
@[simp] theorem State.onNotes_sup (s : State) (f : Notes → Notes) : (s.onNotes f).sup = s.sup := rfl
@[simp] theorem State.onNotes_mon (s : State) (f : Notes → Notes) : (s.onNotes f).mon = s.mon := rfl
@[simp] theorem State.onNotes_cal (s : State) (f : Notes → Notes) : (s.onNotes f).cal = s.cal := rfl
@[simp] theorem State.onNotes_store (s : State) (f : Notes → Notes) : (s.onNotes f).store = s.store := rfl
@[simp] theorem State.onNotes_notes (s : State) (f : Notes → Notes) : (s.onNotes f).notes = f s.notes := rfl
@[simp] theorem State.onNotes_ports (s : State) (f : Notes → Notes) : (s.onNotes f).ports = s.ports := rfl

@[simp] theorem State.onPorts_pending (s : State) (f : Ports → Ports) : (s.onPorts f).pending = s.pending := rfl
@[simp] theorem State.onPorts_clock (s : State) (f : Ports → Ports) : (s.onPorts f).clock = s.clock := rfl
@[simp] theorem State.onPorts_samples (s : State) (f : Ports → Ports) : (s.onPorts f).samples = s.samples := rfl
@[simp] theorem State.onPorts_prog (s : State) (f : Ports → Ports) : (s.onPorts f).prog = s.prog := rfl
@[simp] theorem State.onPorts_water (s : State) (f : Ports → Ports) : (s.onPorts f).water = s.water := rfl
@[simp] theorem State.onPorts_therm (s : State) (f : Ports → Ports) : (s.onPorts f).therm = s.therm := rfl
@[simp] theorem State.onPorts_soft (s : State) (f : Ports → Ports) : (s.onPorts f).soft = s.soft := rfl
@[simp] theorem State.onPorts_dose (s : State) (f : Ports → Ports) : (s.onPorts f).dose = s.dose := rfl
@[simp] theorem State.onPorts_dosing (s : State) (f : Ports → Ports) : (s.onPorts f).dosing = s.dosing := rfl
@[simp] theorem State.onPorts_rod (s : State) (f : Ports → Ports) : (s.onPorts f).rod = s.rod := rfl
@[simp] theorem State.onPorts_sup (s : State) (f : Ports → Ports) : (s.onPorts f).sup = s.sup := rfl
@[simp] theorem State.onPorts_mon (s : State) (f : Ports → Ports) : (s.onPorts f).mon = s.mon := rfl
@[simp] theorem State.onPorts_cal (s : State) (f : Ports → Ports) : (s.onPorts f).cal = s.cal := rfl
@[simp] theorem State.onPorts_store (s : State) (f : Ports → Ports) : (s.onPorts f).store = s.store := rfl
@[simp] theorem State.onPorts_notes (s : State) (f : Ports → Ports) : (s.onPorts f).notes = s.notes := rfl
@[simp] theorem State.onPorts_ports (s : State) (f : Ports → Ports) : (s.onPorts f).ports = f s.ports := rfl

end Sys2Proof.Machine
end

