-- ==== Sys2Proof/Laws/Keeps.lean ====
section
/-!
SUPPORT. What the shared operations leave: for each, one lemma that names every block of the state it does not touch. A
proof about a command cites these in place of unfolding the operations it is written over.
-/

namespace Sys2Proof.Machine

/-! ### Ops -/

@[simp] theorem setDebounced_keeps (i : SwitchInput) (v : Bool) (s : State) :
    (setDebounced i v s).pending = s.pending ∧ (setDebounced i v s).clock = s.clock ∧
    (setDebounced i v s).samples = s.samples ∧ (setDebounced i v s).prog = s.prog ∧
    (setDebounced i v s).water = s.water ∧ (setDebounced i v s).therm = s.therm ∧ (setDebounced i v s).soft = s.soft ∧
    (setDebounced i v s).dose = s.dose ∧ (setDebounced i v s).dosing = s.dosing ∧ (setDebounced i v s).rod = s.rod ∧
    (setDebounced i v s).sup = s.sup ∧ (setDebounced i v s).cal = s.cal ∧ (setDebounced i v s).store = s.store ∧
    (setDebounced i v s).notes = s.notes ∧ (setDebounced i v s).ports = s.ports := by
  simp only [setDebounced]
  repeat' split
  all_goals simp

@[simp] theorem raiseOn_keeps (p : Port) (k : NoticeKind) (s : State) :
    (raiseOn p k s).pending = s.pending ∧ (raiseOn p k s).clock = s.clock ∧ (raiseOn p k s).samples = s.samples ∧
    (raiseOn p k s).prog = s.prog ∧ (raiseOn p k s).water = s.water ∧ (raiseOn p k s).therm = s.therm ∧
    (raiseOn p k s).soft = s.soft ∧ (raiseOn p k s).dose = s.dose ∧ (raiseOn p k s).dosing = s.dosing ∧
    (raiseOn p k s).rod = s.rod ∧ (raiseOn p k s).sup = s.sup ∧ (raiseOn p k s).mon = s.mon ∧
    (raiseOn p k s).cal = s.cal ∧ (raiseOn p k s).store = s.store ∧ (raiseOn p k s).ports = s.ports := by
  simp only [raiseOn]
  all_goals simp

@[simp] theorem raiseAll_keeps (k : NoticeKind) (s : State) :
    (raiseAll k s).pending = s.pending ∧ (raiseAll k s).clock = s.clock ∧ (raiseAll k s).samples = s.samples ∧
    (raiseAll k s).prog = s.prog ∧ (raiseAll k s).water = s.water ∧ (raiseAll k s).therm = s.therm ∧
    (raiseAll k s).soft = s.soft ∧ (raiseAll k s).dose = s.dose ∧ (raiseAll k s).dosing = s.dosing ∧
    (raiseAll k s).rod = s.rod ∧ (raiseAll k s).sup = s.sup ∧ (raiseAll k s).mon = s.mon ∧
    (raiseAll k s).cal = s.cal ∧ (raiseAll k s).store = s.store ∧ (raiseAll k s).ports = s.ports := by
  simp only [raiseAll]
  all_goals simp

@[simp] theorem beginCondition_keeps (k : NoticeKind) (f : Conditions → Conditions) (s : State) :
    (beginCondition k f s).pending = s.pending ∧ (beginCondition k f s).clock = s.clock ∧
    (beginCondition k f s).samples = s.samples ∧ (beginCondition k f s).prog = s.prog ∧
    (beginCondition k f s).water = s.water ∧ (beginCondition k f s).therm = s.therm ∧
    (beginCondition k f s).soft = s.soft ∧ (beginCondition k f s).dose = s.dose ∧
    (beginCondition k f s).dosing = s.dosing ∧ (beginCondition k f s).rod = s.rod ∧
    (beginCondition k f s).sup = s.sup ∧ (beginCondition k f s).mon = s.mon ∧ (beginCondition k f s).cal = s.cal ∧
    (beginCondition k f s).store = s.store ∧ (beginCondition k f s).ports = s.ports := by
  simp only [beginCondition]
  all_goals simp

@[simp] theorem endCondition_keeps (f : Conditions → Conditions) (s : State) :
    (endCondition f s).pending = s.pending ∧ (endCondition f s).clock = s.clock ∧
    (endCondition f s).samples = s.samples ∧ (endCondition f s).prog = s.prog ∧ (endCondition f s).water = s.water ∧
    (endCondition f s).therm = s.therm ∧ (endCondition f s).soft = s.soft ∧ (endCondition f s).dose = s.dose ∧
    (endCondition f s).dosing = s.dosing ∧ (endCondition f s).rod = s.rod ∧ (endCondition f s).sup = s.sup ∧
    (endCondition f s).mon = s.mon ∧ (endCondition f s).cal = s.cal ∧ (endCondition f s).store = s.store ∧
    (endCondition f s).ports = s.ports := by
  simp only [endCondition]
  all_goals simp

@[simp] theorem logFault_keeps (code : FaultCode) (source : FaultSource) (detail : Option Int) (s : State) :
    (logFault code source detail s).pending = s.pending ∧ (logFault code source detail s).clock = s.clock ∧
    (logFault code source detail s).samples = s.samples ∧ (logFault code source detail s).prog = s.prog ∧
    (logFault code source detail s).water = s.water ∧ (logFault code source detail s).therm = s.therm ∧
    (logFault code source detail s).soft = s.soft ∧ (logFault code source detail s).dose = s.dose ∧
    (logFault code source detail s).dosing = s.dosing ∧ (logFault code source detail s).rod = s.rod ∧
    (logFault code source detail s).sup = s.sup ∧ (logFault code source detail s).mon = s.mon ∧
    (logFault code source detail s).cal = s.cal ∧ (logFault code source detail s).store = s.store ∧
    (logFault code source detail s).ports = s.ports := by
  simp only [logFault]
  all_goals simp

@[simp] theorem onStanding_keeps (f : Standing → Standing) (s : State) :
    (onStanding f s).pending = s.pending ∧ (onStanding f s).clock = s.clock ∧ (onStanding f s).samples = s.samples ∧
    (onStanding f s).prog = s.prog ∧ (onStanding f s).water = s.water ∧ (onStanding f s).therm = s.therm ∧
    (onStanding f s).soft = s.soft ∧ (onStanding f s).dose = s.dose ∧ (onStanding f s).dosing = s.dosing ∧
    (onStanding f s).rod = s.rod ∧ (onStanding f s).sup = s.sup ∧ (onStanding f s).mon = s.mon ∧
    (onStanding f s).cal = s.cal ∧ (onStanding f s).store = s.store ∧ (onStanding f s).ports = s.ports := by
  simp only [onStanding]
  all_goals simp

@[simp] theorem beginWrite_keeps (fresh : Bool) (s : State) :
    (beginWrite fresh s).pending = s.pending ∧ (beginWrite fresh s).clock = s.clock ∧
    (beginWrite fresh s).samples = s.samples ∧ (beginWrite fresh s).prog = s.prog ∧
    (beginWrite fresh s).water = s.water ∧ (beginWrite fresh s).therm = s.therm ∧ (beginWrite fresh s).soft = s.soft ∧
    (beginWrite fresh s).dose = s.dose ∧ (beginWrite fresh s).dosing = s.dosing ∧ (beginWrite fresh s).rod = s.rod ∧
    (beginWrite fresh s).sup = s.sup ∧ (beginWrite fresh s).mon = s.mon ∧ (beginWrite fresh s).cal = s.cal ∧
    (beginWrite fresh s).notes = s.notes ∧ (beginWrite fresh s).ports = s.ports := by
  simp only [beginWrite]
  all_goals simp

@[simp] theorem trigger_keeps (s : State) :
    (trigger s).pending = s.pending ∧ (trigger s).clock = s.clock ∧ (trigger s).samples = s.samples ∧
    (trigger s).prog = s.prog ∧ (trigger s).water = s.water ∧ (trigger s).therm = s.therm ∧
    (trigger s).soft = s.soft ∧ (trigger s).dose = s.dose ∧ (trigger s).dosing = s.dosing ∧ (trigger s).rod = s.rod ∧
    (trigger s).sup = s.sup ∧ (trigger s).mon = s.mon ∧ (trigger s).cal = s.cal ∧ (trigger s).notes = s.notes ∧
    (trigger s).ports = s.ports := by
  simp only [trigger]
  repeat' split
  all_goals simp

@[simp] theorem placeResult_keeps (r : ResultRecord) (s : State) :
    (placeResult r s).pending = s.pending ∧ (placeResult r s).clock = s.clock ∧
    (placeResult r s).samples = s.samples ∧ (placeResult r s).prog = s.prog ∧ (placeResult r s).water = s.water ∧
    (placeResult r s).therm = s.therm ∧ (placeResult r s).soft = s.soft ∧ (placeResult r s).dose = s.dose ∧
    (placeResult r s).dosing = s.dosing ∧ (placeResult r s).rod = s.rod ∧ (placeResult r s).sup = s.sup ∧
    (placeResult r s).mon = s.mon ∧ (placeResult r s).cal = s.cal ∧ (placeResult r s).store = s.store ∧
    (placeResult r s).ports = s.ports := by
  simp only [placeResult]
  all_goals simp

@[simp] theorem wake_keeps (cause : WakeCause) (s : State) :
    (wake cause s).pending = s.pending ∧ (wake cause s).clock = s.clock ∧ (wake cause s).samples = s.samples ∧
    (wake cause s).prog = s.prog ∧ (wake cause s).water = s.water ∧ (wake cause s).therm = s.therm ∧
    (wake cause s).soft = s.soft ∧ (wake cause s).dose = s.dose ∧ (wake cause s).dosing = s.dosing ∧
    (wake cause s).rod = s.rod ∧ (wake cause s).mon = s.mon ∧ (wake cause s).cal = s.cal ∧
    (wake cause s).store = s.store ∧ (wake cause s).ports = s.ports := by
  simp only [wake]
  repeat' split
  all_goals simp

@[simp] theorem onReservoir_keeps (r : Reservoir) (f : ReservoirState → ReservoirState) (s : State) :
    (onReservoir r f s).pending = s.pending ∧ (onReservoir r f s).clock = s.clock ∧
    (onReservoir r f s).samples = s.samples ∧ (onReservoir r f s).prog = s.prog ∧
    (onReservoir r f s).water = s.water ∧ (onReservoir r f s).therm = s.therm ∧ (onReservoir r f s).soft = s.soft ∧
    (onReservoir r f s).dose = s.dose ∧ (onReservoir r f s).rod = s.rod ∧ (onReservoir r f s).sup = s.sup ∧
    (onReservoir r f s).mon = s.mon ∧ (onReservoir r f s).cal = s.cal ∧ (onReservoir r f s).store = s.store ∧
    (onReservoir r f s).notes = s.notes ∧ (onReservoir r f s).ports = s.ports := by
  simp only [onReservoir]
  repeat' split
  all_goals simp

@[simp] theorem onPhase_keeps (f : RunningPhase → RunningPhase) (s : State) :
    (onPhase f s).pending = s.pending ∧ (onPhase f s).clock = s.clock ∧ (onPhase f s).samples = s.samples ∧
    (onPhase f s).water = s.water ∧ (onPhase f s).therm = s.therm ∧ (onPhase f s).soft = s.soft ∧
    (onPhase f s).dose = s.dose ∧ (onPhase f s).dosing = s.dosing ∧ (onPhase f s).rod = s.rod ∧
    (onPhase f s).sup = s.sup ∧ (onPhase f s).mon = s.mon ∧ (onPhase f s).cal = s.cal ∧
    (onPhase f s).store = s.store ∧ (onPhase f s).notes = s.notes ∧ (onPhase f s).ports = s.ports := by
  simp only [onPhase]
  all_goals simp

@[simp] theorem reportEnd_keeps (e : StageEnd) (s : State) :
    (reportEnd e s).pending = s.pending ∧ (reportEnd e s).clock = s.clock ∧ (reportEnd e s).samples = s.samples ∧
    (reportEnd e s).water = s.water ∧ (reportEnd e s).therm = s.therm ∧ (reportEnd e s).soft = s.soft ∧
    (reportEnd e s).dose = s.dose ∧ (reportEnd e s).dosing = s.dosing ∧ (reportEnd e s).rod = s.rod ∧
    (reportEnd e s).sup = s.sup ∧ (reportEnd e s).mon = s.mon ∧ (reportEnd e s).cal = s.cal ∧
    (reportEnd e s).store = s.store ∧ (reportEnd e s).notes = s.notes ∧ (reportEnd e s).ports = s.ports := by
  simp only [reportEnd]
  all_goals simp

@[simp] theorem onHolds_keeps (f : HoldSet → HoldSet) (s : State) :
    (onHolds f s).pending = s.pending ∧ (onHolds f s).clock = s.clock ∧ (onHolds f s).samples = s.samples ∧
    (onHolds f s).water = s.water ∧ (onHolds f s).therm = s.therm ∧ (onHolds f s).soft = s.soft ∧
    (onHolds f s).dose = s.dose ∧ (onHolds f s).dosing = s.dosing ∧ (onHolds f s).rod = s.rod ∧
    (onHolds f s).sup = s.sup ∧ (onHolds f s).mon = s.mon ∧ (onHolds f s).cal = s.cal ∧
    (onHolds f s).store = s.store ∧ (onHolds f s).notes = s.notes ∧ (onHolds f s).ports = s.ports := by
  simp only [onHolds]
  repeat' split
  all_goals simp

/-! ### Water -/

@[simp] theorem checkThreshold_keeps (s : State) :
    (checkThreshold s).pending = s.pending ∧ (checkThreshold s).clock = s.clock ∧
    (checkThreshold s).samples = s.samples ∧ (checkThreshold s).prog = s.prog ∧ (checkThreshold s).water = s.water ∧
    (checkThreshold s).therm = s.therm ∧ (checkThreshold s).dose = s.dose ∧ (checkThreshold s).dosing = s.dosing ∧
    (checkThreshold s).rod = s.rod ∧ (checkThreshold s).sup = s.sup ∧ (checkThreshold s).mon = s.mon ∧
    (checkThreshold s).cal = s.cal ∧ (checkThreshold s).store = s.store ∧ (checkThreshold s).notes = s.notes ∧
    (checkThreshold s).ports = s.ports := by
  simp only [checkThreshold]
  repeat' split
  all_goals simp

@[simp] theorem grant_keeps (c : Client) (s : State) :
    (grant c s).pending = s.pending ∧ (grant c s).clock = s.clock ∧ (grant c s).samples = s.samples ∧
    (grant c s).prog = s.prog ∧ (grant c s).therm = s.therm ∧ (grant c s).soft = s.soft ∧ (grant c s).dose = s.dose ∧
    (grant c s).dosing = s.dosing ∧ (grant c s).rod = s.rod ∧ (grant c s).sup = s.sup ∧ (grant c s).mon = s.mon ∧
    (grant c s).cal = s.cal ∧ (grant c s).store = s.store ∧ (grant c s).notes = s.notes ∧
    (grant c s).ports = s.ports := by
  simp only [grant]
  all_goals simp

@[simp] theorem askWash_keeps (s : State) :
    (askWash s).pending = s.pending ∧ (askWash s).clock = s.clock ∧ (askWash s).samples = s.samples ∧
    (askWash s).therm = s.therm ∧ (askWash s).soft = s.soft ∧ (askWash s).dose = s.dose ∧
    (askWash s).dosing = s.dosing ∧ (askWash s).rod = s.rod ∧ (askWash s).sup = s.sup ∧ (askWash s).mon = s.mon ∧
    (askWash s).cal = s.cal ∧ (askWash s).store = s.store ∧ (askWash s).notes = s.notes ∧
    (askWash s).ports = s.ports := by
  simp only [askWash]
  repeat' split
  all_goals simp

@[simp] theorem askSoft_keeps (c : SoftClient) (target : Nat) (s : State) :
    (askSoft c target s).pending = s.pending ∧ (askSoft c target s).clock = s.clock ∧
    (askSoft c target s).samples = s.samples ∧ (askSoft c target s).prog = s.prog ∧
    (askSoft c target s).therm = s.therm ∧ (askSoft c target s).soft = s.soft ∧ (askSoft c target s).dose = s.dose ∧
    (askSoft c target s).dosing = s.dosing ∧ (askSoft c target s).rod = s.rod ∧ (askSoft c target s).sup = s.sup ∧
    (askSoft c target s).mon = s.mon ∧ (askSoft c target s).cal = s.cal ∧ (askSoft c target s).store = s.store ∧
    (askSoft c target s).notes = s.notes ∧ (askSoft c target s).ports = s.ports := by
  simp only [askSoft]
  repeat' split
  all_goals simp

@[simp] theorem releaseHolder_keeps (s : State) :
    (releaseHolder s).pending = s.pending ∧ (releaseHolder s).clock = s.clock ∧
    (releaseHolder s).samples = s.samples ∧ (releaseHolder s).prog = s.prog ∧ (releaseHolder s).therm = s.therm ∧
    (releaseHolder s).soft = s.soft ∧ (releaseHolder s).dose = s.dose ∧ (releaseHolder s).dosing = s.dosing ∧
    (releaseHolder s).rod = s.rod ∧ (releaseHolder s).sup = s.sup ∧ (releaseHolder s).mon = s.mon ∧
    (releaseHolder s).cal = s.cal ∧ (releaseHolder s).store = s.store ∧ (releaseHolder s).notes = s.notes ∧
    (releaseHolder s).ports = s.ports := by
  simp only [releaseHolder]
  repeat' split
  all_goals simp

@[simp] theorem endWashRecord_keeps (e : FillEnding) (s : State) :
    (endWashRecord e s).pending = s.pending ∧ (endWashRecord e s).clock = s.clock ∧
    (endWashRecord e s).samples = s.samples ∧ (endWashRecord e s).prog = s.prog ∧
    (endWashRecord e s).therm = s.therm ∧ (endWashRecord e s).soft = s.soft ∧ (endWashRecord e s).dose = s.dose ∧
    (endWashRecord e s).dosing = s.dosing ∧ (endWashRecord e s).rod = s.rod ∧ (endWashRecord e s).sup = s.sup ∧
    (endWashRecord e s).mon = s.mon ∧ (endWashRecord e s).cal = s.cal ∧ (endWashRecord e s).store = s.store ∧
    (endWashRecord e s).notes = s.notes ∧ (endWashRecord e s).ports = s.ports := by
  simp only [endWashRecord]
  all_goals simp

@[simp] theorem endSoftCounter_keeps (e : FillEnding) (s : State) :
    (endSoftCounter e s).pending = s.pending ∧ (endSoftCounter e s).clock = s.clock ∧
    (endSoftCounter e s).samples = s.samples ∧ (endSoftCounter e s).prog = s.prog ∧
    (endSoftCounter e s).therm = s.therm ∧ (endSoftCounter e s).soft = s.soft ∧ (endSoftCounter e s).dose = s.dose ∧
    (endSoftCounter e s).dosing = s.dosing ∧ (endSoftCounter e s).rod = s.rod ∧ (endSoftCounter e s).sup = s.sup ∧
    (endSoftCounter e s).mon = s.mon ∧ (endSoftCounter e s).cal = s.cal ∧ (endSoftCounter e s).store = s.store ∧
    (endSoftCounter e s).notes = s.notes ∧ (endSoftCounter e s).ports = s.ports := by
  simp only [endSoftCounter]
  all_goals simp

@[simp] theorem endHolderFill_keeps (e : FillEnding) (s : State) :
    (endHolderFill e s).pending = s.pending ∧ (endHolderFill e s).clock = s.clock ∧
    (endHolderFill e s).samples = s.samples ∧ (endHolderFill e s).prog = s.prog ∧
    (endHolderFill e s).therm = s.therm ∧ (endHolderFill e s).soft = s.soft ∧ (endHolderFill e s).dose = s.dose ∧
    (endHolderFill e s).dosing = s.dosing ∧ (endHolderFill e s).rod = s.rod ∧ (endHolderFill e s).sup = s.sup ∧
    (endHolderFill e s).mon = s.mon ∧ (endHolderFill e s).cal = s.cal ∧ (endHolderFill e s).store = s.store ∧
    (endHolderFill e s).notes = s.notes ∧ (endHolderFill e s).ports = s.ports := by
  simp only [endHolderFill]
  repeat' split
  all_goals simp

@[simp] theorem washFinal_keeps (s : State) :
    (washFinal s).pending = s.pending ∧ (washFinal s).clock = s.clock ∧ (washFinal s).samples = s.samples ∧
    (washFinal s).therm = s.therm ∧ (washFinal s).soft = s.soft ∧ (washFinal s).dose = s.dose ∧
    (washFinal s).dosing = s.dosing ∧ (washFinal s).rod = s.rod ∧ (washFinal s).sup = s.sup ∧
    (washFinal s).mon = s.mon ∧ (washFinal s).cal = s.cal ∧ (washFinal s).store = s.store ∧
    (washFinal s).notes = s.notes ∧ (washFinal s).ports = s.ports := by
  simp only [washFinal]
  repeat' split
  all_goals simp

@[simp] theorem retryWash_keeps (s : State) :
    (retryWash s).pending = s.pending ∧ (retryWash s).clock = s.clock ∧ (retryWash s).samples = s.samples ∧
    (retryWash s).therm = s.therm ∧ (retryWash s).soft = s.soft ∧ (retryWash s).dose = s.dose ∧
    (retryWash s).dosing = s.dosing ∧ (retryWash s).rod = s.rod ∧ (retryWash s).sup = s.sup ∧
    (retryWash s).mon = s.mon ∧ (retryWash s).cal = s.cal ∧ (retryWash s).store = s.store ∧
    (retryWash s).notes = s.notes ∧ (retryWash s).ports = s.ports := by
  simp only [retryWash]
  repeat' split
  all_goals simp

@[simp] theorem requestWash_keeps (target : Nat) (s : State) :
    (requestWash target s).pending = s.pending ∧ (requestWash target s).clock = s.clock ∧
    (requestWash target s).samples = s.samples ∧ (requestWash target s).therm = s.therm ∧
    (requestWash target s).soft = s.soft ∧ (requestWash target s).dose = s.dose ∧
    (requestWash target s).dosing = s.dosing ∧ (requestWash target s).rod = s.rod ∧
    (requestWash target s).sup = s.sup ∧ (requestWash target s).mon = s.mon ∧ (requestWash target s).cal = s.cal ∧
    (requestWash target s).store = s.store ∧ (requestWash target s).notes = s.notes ∧
    (requestWash target s).ports = s.ports := by
  simp only [requestWash]
  all_goals simp

@[simp] theorem withdrawWash_keeps (s : State) :
    (withdrawWash s).pending = s.pending ∧ (withdrawWash s).clock = s.clock ∧ (withdrawWash s).samples = s.samples ∧
    (withdrawWash s).prog = s.prog ∧ (withdrawWash s).therm = s.therm ∧ (withdrawWash s).soft = s.soft ∧
    (withdrawWash s).dose = s.dose ∧ (withdrawWash s).dosing = s.dosing ∧ (withdrawWash s).rod = s.rod ∧
    (withdrawWash s).sup = s.sup ∧ (withdrawWash s).mon = s.mon ∧ (withdrawWash s).cal = s.cal ∧
    (withdrawWash s).store = s.store ∧ (withdrawWash s).notes = s.notes ∧ (withdrawWash s).ports = s.ports := by
  simp only [withdrawWash]
  repeat' split
  all_goals simp

@[simp] theorem withdrawSoft_keeps (s : State) :
    (withdrawSoft s).pending = s.pending ∧ (withdrawSoft s).clock = s.clock ∧ (withdrawSoft s).samples = s.samples ∧
    (withdrawSoft s).prog = s.prog ∧ (withdrawSoft s).therm = s.therm ∧ (withdrawSoft s).soft = s.soft ∧
    (withdrawSoft s).dose = s.dose ∧ (withdrawSoft s).dosing = s.dosing ∧ (withdrawSoft s).rod = s.rod ∧
    (withdrawSoft s).sup = s.sup ∧ (withdrawSoft s).mon = s.mon ∧ (withdrawSoft s).cal = s.cal ∧
    (withdrawSoft s).store = s.store ∧ (withdrawSoft s).notes = s.notes ∧ (withdrawSoft s).ports = s.ports := by
  simp only [withdrawSoft]
  repeat' split
  all_goals simp

@[simp] theorem endMetWash_keeps (s : State) :
    (endMetWash s).pending = s.pending ∧ (endMetWash s).clock = s.clock ∧ (endMetWash s).samples = s.samples ∧
    (endMetWash s).prog = s.prog ∧ (endMetWash s).therm = s.therm ∧ (endMetWash s).soft = s.soft ∧
    (endMetWash s).dose = s.dose ∧ (endMetWash s).dosing = s.dosing ∧ (endMetWash s).rod = s.rod ∧
    (endMetWash s).sup = s.sup ∧ (endMetWash s).mon = s.mon ∧ (endMetWash s).cal = s.cal ∧
    (endMetWash s).store = s.store ∧ (endMetWash s).notes = s.notes ∧ (endMetWash s).ports = s.ports := by
  simp only [endMetWash]
  repeat' split
  all_goals simp

@[simp] theorem beginServiceFill_keeps (s : State) :
    (beginServiceFill s).pending = s.pending ∧ (beginServiceFill s).clock = s.clock ∧
    (beginServiceFill s).samples = s.samples ∧ (beginServiceFill s).prog = s.prog ∧
    (beginServiceFill s).therm = s.therm ∧ (beginServiceFill s).soft = s.soft ∧ (beginServiceFill s).dose = s.dose ∧
    (beginServiceFill s).dosing = s.dosing ∧ (beginServiceFill s).rod = s.rod ∧ (beginServiceFill s).sup = s.sup ∧
    (beginServiceFill s).mon = s.mon ∧ (beginServiceFill s).cal = s.cal ∧ (beginServiceFill s).store = s.store ∧
    (beginServiceFill s).notes = s.notes ∧ (beginServiceFill s).ports = s.ports := by
  simp only [beginServiceFill]
  all_goals simp

@[simp] theorem endServiceFill_keeps (s : State) :
    (endServiceFill s).pending = s.pending ∧ (endServiceFill s).clock = s.clock ∧
    (endServiceFill s).samples = s.samples ∧ (endServiceFill s).prog = s.prog ∧ (endServiceFill s).therm = s.therm ∧
    (endServiceFill s).soft = s.soft ∧ (endServiceFill s).dose = s.dose ∧ (endServiceFill s).dosing = s.dosing ∧
    (endServiceFill s).rod = s.rod ∧ (endServiceFill s).sup = s.sup ∧ (endServiceFill s).mon = s.mon ∧
    (endServiceFill s).cal = s.cal ∧ (endServiceFill s).store = s.store ∧ (endServiceFill s).notes = s.notes ∧
    (endServiceFill s).ports = s.ports := by
  simp only [endServiceFill]
  all_goals simp

/-! ### Dose -/

@[simp] theorem soilReading_keeps (r : Turbidity) (s : State) :
    (soilReading r s).2.pending = s.pending ∧ (soilReading r s).2.clock = s.clock ∧
    (soilReading r s).2.samples = s.samples ∧ (soilReading r s).2.prog = s.prog ∧
    (soilReading r s).2.water = s.water ∧ (soilReading r s).2.therm = s.therm ∧
    (soilReading r s).2.soft = s.soft ∧ (soilReading r s).2.dose = s.dose ∧
    (soilReading r s).2.dosing = s.dosing ∧ (soilReading r s).2.rod = s.rod ∧
    (soilReading r s).2.sup = s.sup ∧ (soilReading r s).2.mon = s.mon ∧ (soilReading r s).2.cal = s.cal ∧
    (soilReading r s).2.store = s.store ∧ (soilReading r s).2.ports = s.ports := by
  simp only [soilReading]
  split <;> simp

@[simp] theorem takeSoilSample_keeps (r : Turbidity) (s : State) :
    (takeSoilSample r s).pending = s.pending ∧ (takeSoilSample r s).clock = s.clock ∧
    (takeSoilSample r s).samples = s.samples ∧ (takeSoilSample r s).water = s.water ∧
    (takeSoilSample r s).therm = s.therm ∧ (takeSoilSample r s).soft = s.soft ∧ (takeSoilSample r s).dose = s.dose ∧
    (takeSoilSample r s).dosing = s.dosing ∧ (takeSoilSample r s).rod = s.rod ∧ (takeSoilSample r s).sup = s.sup ∧
    (takeSoilSample r s).mon = s.mon ∧ (takeSoilSample r s).cal = s.cal ∧ (takeSoilSample r s).store = s.store ∧
    (takeSoilSample r s).ports = s.ports := by
  simp only [takeSoilSample]
  repeat' split
  all_goals simp

@[simp] theorem buildPlan_keeps (r : PhaseRecord) (s : State) :
    (buildPlan r s).pending = s.pending ∧ (buildPlan r s).clock = s.clock ∧ (buildPlan r s).samples = s.samples ∧
    (buildPlan r s).prog = s.prog ∧ (buildPlan r s).water = s.water ∧ (buildPlan r s).therm = s.therm ∧
    (buildPlan r s).soft = s.soft ∧ (buildPlan r s).dosing = s.dosing ∧ (buildPlan r s).rod = s.rod ∧
    (buildPlan r s).sup = s.sup ∧ (buildPlan r s).mon = s.mon ∧ (buildPlan r s).cal = s.cal ∧
    (buildPlan r s).store = s.store ∧ (buildPlan r s).notes = s.notes ∧ (buildPlan r s).ports = s.ports := by
  simp only [buildPlan]
  repeat' split
  all_goals simp

/-! ### Strokes -/

@[simp] theorem onPlan_keeps (f : DosePlan → DosePlan) (s : State) :
    (onPlan f s).pending = s.pending ∧ (onPlan f s).clock = s.clock ∧ (onPlan f s).samples = s.samples ∧
    (onPlan f s).prog = s.prog ∧ (onPlan f s).water = s.water ∧ (onPlan f s).therm = s.therm ∧
    (onPlan f s).soft = s.soft ∧ (onPlan f s).dosing = s.dosing ∧ (onPlan f s).rod = s.rod ∧
    (onPlan f s).sup = s.sup ∧ (onPlan f s).mon = s.mon ∧ (onPlan f s).cal = s.cal ∧ (onPlan f s).store = s.store ∧
    (onPlan f s).notes = s.notes ∧ (onPlan f s).ports = s.ports := by
  simp only [onPlan]
  all_goals simp

@[simp] theorem allShortfall_keeps (s : State) :
    (allShortfall s).pending = s.pending ∧ (allShortfall s).clock = s.clock ∧ (allShortfall s).samples = s.samples ∧
    (allShortfall s).prog = s.prog ∧ (allShortfall s).water = s.water ∧ (allShortfall s).therm = s.therm ∧
    (allShortfall s).soft = s.soft ∧ (allShortfall s).dosing = s.dosing ∧ (allShortfall s).rod = s.rod ∧
    (allShortfall s).sup = s.sup ∧ (allShortfall s).mon = s.mon ∧ (allShortfall s).cal = s.cal ∧
    (allShortfall s).store = s.store ∧ (allShortfall s).notes = s.notes ∧ (allShortfall s).ports = s.ports := by
  simp only [allShortfall]
  all_goals simp

@[simp] theorem nextStroke_keeps (s : State) :
    (nextStroke s).pending = s.pending ∧ (nextStroke s).clock = s.clock ∧ (nextStroke s).samples = s.samples ∧
    (nextStroke s).water = s.water ∧ (nextStroke s).therm = s.therm ∧ (nextStroke s).soft = s.soft ∧
    (nextStroke s).rod = s.rod ∧ (nextStroke s).sup = s.sup ∧ (nextStroke s).mon = s.mon ∧
    (nextStroke s).cal = s.cal ∧ (nextStroke s).store = s.store ∧ (nextStroke s).ports = s.ports := by
  simp only [nextStroke]
  repeat' split
  all_goals simp

@[simp] theorem deliverStroke_keeps (s : State) :
    (deliverStroke s).pending = s.pending ∧ (deliverStroke s).clock = s.clock ∧
    (deliverStroke s).samples = s.samples ∧ (deliverStroke s).prog = s.prog ∧ (deliverStroke s).water = s.water ∧
    (deliverStroke s).therm = s.therm ∧ (deliverStroke s).soft = s.soft ∧ (deliverStroke s).rod = s.rod ∧
    (deliverStroke s).sup = s.sup ∧ (deliverStroke s).mon = s.mon ∧ (deliverStroke s).cal = s.cal ∧
    (deliverStroke s).store = s.store ∧ (deliverStroke s).notes = s.notes ∧ (deliverStroke s).ports = s.ports := by
  simp only [deliverStroke]
  repeat' split
  all_goals simp

@[simp] theorem setPumpFault_keeps (r : Reservoir) (detail : Option Int) (s : State) :
    (setPumpFault r detail s).pending = s.pending ∧ (setPumpFault r detail s).clock = s.clock ∧
    (setPumpFault r detail s).samples = s.samples ∧ (setPumpFault r detail s).prog = s.prog ∧
    (setPumpFault r detail s).water = s.water ∧ (setPumpFault r detail s).therm = s.therm ∧
    (setPumpFault r detail s).soft = s.soft ∧ (setPumpFault r detail s).dose = s.dose ∧
    (setPumpFault r detail s).dosing = s.dosing ∧ (setPumpFault r detail s).rod = s.rod ∧
    (setPumpFault r detail s).sup = s.sup ∧ (setPumpFault r detail s).mon = s.mon ∧
    (setPumpFault r detail s).cal = s.cal ∧ (setPumpFault r detail s).store = s.store ∧
    (setPumpFault r detail s).ports = s.ports := by
  simp only [setPumpFault]
  repeat' split
  all_goals simp

@[simp] theorem withdrawStrokes_keeps (s : State) :
    (withdrawStrokes s).pending = s.pending ∧ (withdrawStrokes s).clock = s.clock ∧
    (withdrawStrokes s).samples = s.samples ∧ (withdrawStrokes s).prog = s.prog ∧
    (withdrawStrokes s).water = s.water ∧ (withdrawStrokes s).therm = s.therm ∧ (withdrawStrokes s).soft = s.soft ∧
    (withdrawStrokes s).rod = s.rod ∧ (withdrawStrokes s).sup = s.sup ∧ (withdrawStrokes s).mon = s.mon ∧
    (withdrawStrokes s).cal = s.cal ∧ (withdrawStrokes s).store = s.store ∧ (withdrawStrokes s).notes = s.notes ∧
    (withdrawStrokes s).ports = s.ports := by
  simp only [withdrawStrokes]
  repeat' split
  all_goals simp

@[simp] theorem stopRunOuts_keeps (s : State) :
    (stopRunOuts s).pending = s.pending ∧ (stopRunOuts s).clock = s.clock ∧ (stopRunOuts s).samples = s.samples ∧
    (stopRunOuts s).prog = s.prog ∧ (stopRunOuts s).water = s.water ∧ (stopRunOuts s).therm = s.therm ∧
    (stopRunOuts s).soft = s.soft ∧ (stopRunOuts s).dose = s.dose ∧ (stopRunOuts s).rod = s.rod ∧
    (stopRunOuts s).sup = s.sup ∧ (stopRunOuts s).mon = s.mon ∧ (stopRunOuts s).cal = s.cal ∧
    (stopRunOuts s).store = s.store ∧ (stopRunOuts s).notes = s.notes ∧ (stopRunOuts s).ports = s.ports := by
  simp only [stopRunOuts]
  repeat' split
  all_goals simp

/-! ### Rod -/

@[simp] theorem onMotion_keeps (f : Motion → Motion) (s : State) :
    (onMotion f s).pending = s.pending ∧ (onMotion f s).clock = s.clock ∧ (onMotion f s).samples = s.samples ∧
    (onMotion f s).prog = s.prog ∧ (onMotion f s).water = s.water ∧ (onMotion f s).therm = s.therm ∧
    (onMotion f s).soft = s.soft ∧ (onMotion f s).dose = s.dose ∧ (onMotion f s).dosing = s.dosing ∧
    (onMotion f s).sup = s.sup ∧ (onMotion f s).mon = s.mon ∧ (onMotion f s).cal = s.cal ∧
    (onMotion f s).store = s.store ∧ (onMotion f s).notes = s.notes ∧ (onMotion f s).ports = s.ports := by
  simp only [onMotion]
  all_goals simp

@[simp] theorem withdrawMotion_keeps (s : State) :
    (withdrawMotion s).pending = s.pending ∧ (withdrawMotion s).clock = s.clock ∧
    (withdrawMotion s).samples = s.samples ∧ (withdrawMotion s).prog = s.prog ∧ (withdrawMotion s).water = s.water ∧
    (withdrawMotion s).therm = s.therm ∧ (withdrawMotion s).soft = s.soft ∧ (withdrawMotion s).dose = s.dose ∧
    (withdrawMotion s).dosing = s.dosing ∧ (withdrawMotion s).sup = s.sup ∧ (withdrawMotion s).mon = s.mon ∧
    (withdrawMotion s).cal = s.cal ∧ (withdrawMotion s).store = s.store ∧ (withdrawMotion s).notes = s.notes ∧
    (withdrawMotion s).ports = s.ports := by
  simp only [withdrawMotion]
  repeat' split
  all_goals simp

@[simp] theorem beginMove_keeps (client : MotionClient) (slot : Nat) (outwardAllowed : Bool) (s : State) :
    (beginMove client slot outwardAllowed s).pending = s.pending ∧
    (beginMove client slot outwardAllowed s).clock = s.clock ∧
    (beginMove client slot outwardAllowed s).samples = s.samples ∧
    (beginMove client slot outwardAllowed s).prog = s.prog ∧
    (beginMove client slot outwardAllowed s).water = s.water ∧
    (beginMove client slot outwardAllowed s).therm = s.therm ∧
    (beginMove client slot outwardAllowed s).soft = s.soft ∧ (beginMove client slot outwardAllowed s).dose = s.dose ∧
    (beginMove client slot outwardAllowed s).dosing = s.dosing ∧
    (beginMove client slot outwardAllowed s).sup = s.sup ∧ (beginMove client slot outwardAllowed s).mon = s.mon ∧
    (beginMove client slot outwardAllowed s).cal = s.cal ∧ (beginMove client slot outwardAllowed s).store = s.store ∧
    (beginMove client slot outwardAllowed s).notes = s.notes ∧
    (beginMove client slot outwardAllowed s).ports = s.ports := by
  simp only [beginMove]
  repeat' split
  all_goals simp

@[simp] theorem referencedEnd_keeps (client : MotionClient) (s : State) :
    (referencedEnd client s).pending = s.pending ∧ (referencedEnd client s).clock = s.clock ∧
    (referencedEnd client s).samples = s.samples ∧ (referencedEnd client s).prog = s.prog ∧
    (referencedEnd client s).water = s.water ∧ (referencedEnd client s).therm = s.therm ∧
    (referencedEnd client s).soft = s.soft ∧ (referencedEnd client s).dose = s.dose ∧
    (referencedEnd client s).dosing = s.dosing ∧ (referencedEnd client s).sup = s.sup ∧
    (referencedEnd client s).mon = s.mon ∧ (referencedEnd client s).cal = s.cal ∧
    (referencedEnd client s).store = s.store ∧ (referencedEnd client s).ports = s.ports := by
  simp only [referencedEnd]
  all_goals simp

@[simp] theorem askApproach_keeps (client : MotionClient) (s : State) :
    (askApproach client s).pending = s.pending ∧ (askApproach client s).clock = s.clock ∧
    (askApproach client s).samples = s.samples ∧ (askApproach client s).prog = s.prog ∧
    (askApproach client s).water = s.water ∧ (askApproach client s).therm = s.therm ∧
    (askApproach client s).soft = s.soft ∧ (askApproach client s).dose = s.dose ∧
    (askApproach client s).dosing = s.dosing ∧ (askApproach client s).sup = s.sup ∧
    (askApproach client s).mon = s.mon ∧ (askApproach client s).cal = s.cal ∧ (askApproach client s).store = s.store ∧
    (askApproach client s).ports = s.ports := by
  simp only [askApproach]
  repeat' split
  all_goals simp

@[simp] theorem pauseMotion_keeps (s : State) :
    (pauseMotion s).pending = s.pending ∧ (pauseMotion s).clock = s.clock ∧ (pauseMotion s).samples = s.samples ∧
    (pauseMotion s).prog = s.prog ∧ (pauseMotion s).water = s.water ∧ (pauseMotion s).therm = s.therm ∧
    (pauseMotion s).soft = s.soft ∧ (pauseMotion s).dose = s.dose ∧ (pauseMotion s).dosing = s.dosing ∧
    (pauseMotion s).sup = s.sup ∧ (pauseMotion s).mon = s.mon ∧ (pauseMotion s).cal = s.cal ∧
    (pauseMotion s).store = s.store ∧ (pauseMotion s).notes = s.notes ∧ (pauseMotion s).ports = s.ports := by
  simp only [pauseMotion]
  repeat' split
  all_goals simp

@[simp] theorem zeroMotionStall_keeps (s : State) :
    (zeroMotionStall s).pending = s.pending ∧ (zeroMotionStall s).clock = s.clock ∧
    (zeroMotionStall s).samples = s.samples ∧ (zeroMotionStall s).prog = s.prog ∧
    (zeroMotionStall s).water = s.water ∧ (zeroMotionStall s).therm = s.therm ∧ (zeroMotionStall s).soft = s.soft ∧
    (zeroMotionStall s).dose = s.dose ∧ (zeroMotionStall s).dosing = s.dosing ∧ (zeroMotionStall s).sup = s.sup ∧
    (zeroMotionStall s).mon = s.mon ∧ (zeroMotionStall s).cal = s.cal ∧ (zeroMotionStall s).store = s.store ∧
    (zeroMotionStall s).notes = s.notes ∧ (zeroMotionStall s).ports = s.ports := by
  simp only [zeroMotionStall]
  all_goals simp

@[simp] theorem setMiss_keeps (s : State) :
    (setMiss s).pending = s.pending ∧ (setMiss s).clock = s.clock ∧ (setMiss s).samples = s.samples ∧
    (setMiss s).prog = s.prog ∧ (setMiss s).water = s.water ∧ (setMiss s).therm = s.therm ∧
    (setMiss s).soft = s.soft ∧ (setMiss s).dose = s.dose ∧ (setMiss s).dosing = s.dosing ∧ (setMiss s).sup = s.sup ∧
    (setMiss s).mon = s.mon ∧ (setMiss s).cal = s.cal ∧ (setMiss s).store = s.store ∧ (setMiss s).notes = s.notes ∧
    (setMiss s).ports = s.ports := by
  simp only [setMiss]
  all_goals simp

@[simp] theorem decideOpening_keeps (s : State) :
    (decideOpening s).pending = s.pending ∧ (decideOpening s).clock = s.clock ∧
    (decideOpening s).samples = s.samples ∧ (decideOpening s).water = s.water ∧ (decideOpening s).therm = s.therm ∧
    (decideOpening s).soft = s.soft ∧ (decideOpening s).dose = s.dose ∧ (decideOpening s).dosing = s.dosing ∧
    (decideOpening s).sup = s.sup ∧ (decideOpening s).mon = s.mon ∧ (decideOpening s).cal = s.cal ∧
    (decideOpening s).store = s.store ∧ (decideOpening s).notes = s.notes ∧ (decideOpening s).ports = s.ports := by
  simp only [decideOpening]
  repeat' split
  all_goals simp

@[simp] theorem decideUnreferenced_keeps (s : State) :
    (decideUnreferenced s).pending = s.pending ∧ (decideUnreferenced s).clock = s.clock ∧
    (decideUnreferenced s).samples = s.samples ∧ (decideUnreferenced s).water = s.water ∧
    (decideUnreferenced s).therm = s.therm ∧ (decideUnreferenced s).soft = s.soft ∧
    (decideUnreferenced s).dose = s.dose ∧ (decideUnreferenced s).dosing = s.dosing ∧
    (decideUnreferenced s).sup = s.sup ∧ (decideUnreferenced s).mon = s.mon ∧ (decideUnreferenced s).cal = s.cal ∧
    (decideUnreferenced s).store = s.store ∧ (decideUnreferenced s).ports = s.ports := by
  simp only [decideUnreferenced]
  repeat' split
  all_goals simp

@[simp] theorem decideRetract_keeps (s : State) :
    (decideRetract s).pending = s.pending ∧ (decideRetract s).clock = s.clock ∧
    (decideRetract s).samples = s.samples ∧ (decideRetract s).water = s.water ∧ (decideRetract s).therm = s.therm ∧
    (decideRetract s).soft = s.soft ∧ (decideRetract s).dose = s.dose ∧ (decideRetract s).dosing = s.dosing ∧
    (decideRetract s).sup = s.sup ∧ (decideRetract s).mon = s.mon ∧ (decideRetract s).cal = s.cal ∧
    (decideRetract s).store = s.store ∧ (decideRetract s).ports = s.ports := by
  simp only [decideRetract]
  repeat' split
  all_goals simp

@[simp] theorem dryMotionEnd_keeps (m : Motion) (o : Outcome) (s : State) :
    (dryMotionEnd m o s).pending = s.pending ∧ (dryMotionEnd m o s).clock = s.clock ∧
    (dryMotionEnd m o s).samples = s.samples ∧ (dryMotionEnd m o s).water = s.water ∧
    (dryMotionEnd m o s).therm = s.therm ∧ (dryMotionEnd m o s).soft = s.soft ∧ (dryMotionEnd m o s).dose = s.dose ∧
    (dryMotionEnd m o s).dosing = s.dosing ∧ (dryMotionEnd m o s).sup = s.sup ∧ (dryMotionEnd m o s).mon = s.mon ∧
    (dryMotionEnd m o s).cal = s.cal ∧ (dryMotionEnd m o s).store = s.store ∧
    (dryMotionEnd m o s).ports = s.ports := by
  simp only [dryMotionEnd]
  repeat' split
  all_goals simp

@[simp] theorem endMotion_keeps (o : Outcome) (s : State) :
    (endMotion o s).pending = s.pending ∧ (endMotion o s).clock = s.clock ∧ (endMotion o s).samples = s.samples ∧
    (endMotion o s).water = s.water ∧ (endMotion o s).therm = s.therm ∧ (endMotion o s).soft = s.soft ∧
    (endMotion o s).dose = s.dose ∧ (endMotion o s).dosing = s.dosing ∧ (endMotion o s).sup = s.sup ∧
    (endMotion o s).mon = s.mon ∧ (endMotion o s).cal = s.cal ∧ (endMotion o s).store = s.store ∧
    (endMotion o s).ports = s.ports := by
  simp only [endMotion]
  repeat' split
  all_goals simp

@[simp] theorem endReferenced_keeps (s : State) :
    (endReferenced s).pending = s.pending ∧ (endReferenced s).clock = s.clock ∧
    (endReferenced s).samples = s.samples ∧ (endReferenced s).water = s.water ∧ (endReferenced s).therm = s.therm ∧
    (endReferenced s).soft = s.soft ∧ (endReferenced s).dose = s.dose ∧ (endReferenced s).dosing = s.dosing ∧
    (endReferenced s).sup = s.sup ∧ (endReferenced s).mon = s.mon ∧ (endReferenced s).cal = s.cal ∧
    (endReferenced s).store = s.store ∧ (endReferenced s).ports = s.ports := by
  simp only [endReferenced]
  repeat' split
  all_goals simp

@[simp] theorem failApproach_keeps (s : State) :
    (failApproach s).pending = s.pending ∧ (failApproach s).clock = s.clock ∧ (failApproach s).samples = s.samples ∧
    (failApproach s).water = s.water ∧ (failApproach s).therm = s.therm ∧ (failApproach s).soft = s.soft ∧
    (failApproach s).dose = s.dose ∧ (failApproach s).dosing = s.dosing ∧ (failApproach s).sup = s.sup ∧
    (failApproach s).mon = s.mon ∧ (failApproach s).cal = s.cal ∧ (failApproach s).store = s.store ∧
    (failApproach s).ports = s.ports := by
  simp only [failApproach]
  repeat' split
  all_goals simp

@[simp] theorem encoderEnd_keeps (s : State) :
    (encoderEnd s).pending = s.pending ∧ (encoderEnd s).clock = s.clock ∧ (encoderEnd s).samples = s.samples ∧
    (encoderEnd s).water = s.water ∧ (encoderEnd s).therm = s.therm ∧ (encoderEnd s).soft = s.soft ∧
    (encoderEnd s).dose = s.dose ∧ (encoderEnd s).dosing = s.dosing ∧ (encoderEnd s).sup = s.sup ∧
    (encoderEnd s).mon = s.mon ∧ (encoderEnd s).cal = s.cal ∧ (encoderEnd s).store = s.store ∧
    (encoderEnd s).ports = s.ports := by
  simp only [encoderEnd]
  repeat' split
  all_goals simp

@[simp] theorem stuckEnd_keeps (s : State) :
    (stuckEnd s).pending = s.pending ∧ (stuckEnd s).clock = s.clock ∧ (stuckEnd s).samples = s.samples ∧
    (stuckEnd s).water = s.water ∧ (stuckEnd s).therm = s.therm ∧ (stuckEnd s).soft = s.soft ∧
    (stuckEnd s).dose = s.dose ∧ (stuckEnd s).dosing = s.dosing ∧ (stuckEnd s).sup = s.sup ∧
    (stuckEnd s).mon = s.mon ∧ (stuckEnd s).cal = s.cal ∧ (stuckEnd s).store = s.store ∧
    (stuckEnd s).ports = s.ports := by
  simp only [stuckEnd]
  repeat' split
  all_goals simp

/-! ### Thermal -/

@[simp] theorem targetReached_keeps (s : State) :
    (targetReached s).pending = s.pending ∧ (targetReached s).clock = s.clock ∧
    (targetReached s).samples = s.samples ∧ (targetReached s).water = s.water ∧ (targetReached s).soft = s.soft ∧
    (targetReached s).dose = s.dose ∧ (targetReached s).dosing = s.dosing ∧ (targetReached s).rod = s.rod ∧
    (targetReached s).sup = s.sup ∧ (targetReached s).mon = s.mon ∧ (targetReached s).cal = s.cal ∧
    (targetReached s).store = s.store ∧ (targetReached s).notes = s.notes ∧ (targetReached s).ports = s.ports := by
  simp only [targetReached]
  all_goals simp

@[simp] theorem placeHeating_keeps (target : Nat) (s : State) :
    (placeHeating target s).pending = s.pending ∧ (placeHeating target s).clock = s.clock ∧
    (placeHeating target s).samples = s.samples ∧ (placeHeating target s).water = s.water ∧
    (placeHeating target s).soft = s.soft ∧ (placeHeating target s).dose = s.dose ∧
    (placeHeating target s).dosing = s.dosing ∧ (placeHeating target s).rod = s.rod ∧
    (placeHeating target s).sup = s.sup ∧ (placeHeating target s).mon = s.mon ∧ (placeHeating target s).cal = s.cal ∧
    (placeHeating target s).store = s.store ∧ (placeHeating target s).notes = s.notes ∧
    (placeHeating target s).ports = s.ports := by
  simp only [placeHeating]
  repeat' split
  all_goals simp

@[simp] theorem placeHolding_keeps (target : Nat) (s : State) :
    (placeHolding target s).pending = s.pending ∧ (placeHolding target s).clock = s.clock ∧
    (placeHolding target s).samples = s.samples ∧ (placeHolding target s).prog = s.prog ∧
    (placeHolding target s).water = s.water ∧ (placeHolding target s).soft = s.soft ∧
    (placeHolding target s).dose = s.dose ∧ (placeHolding target s).dosing = s.dosing ∧
    (placeHolding target s).rod = s.rod ∧ (placeHolding target s).sup = s.sup ∧ (placeHolding target s).mon = s.mon ∧
    (placeHolding target s).cal = s.cal ∧ (placeHolding target s).store = s.store ∧
    (placeHolding target s).notes = s.notes ∧ (placeHolding target s).ports = s.ports := by
  simp only [placeHolding]
  all_goals simp

@[simp] theorem dropHeating_keeps (s : State) :
    (dropHeating s).pending = s.pending ∧ (dropHeating s).clock = s.clock ∧ (dropHeating s).samples = s.samples ∧
    (dropHeating s).prog = s.prog ∧ (dropHeating s).water = s.water ∧ (dropHeating s).soft = s.soft ∧
    (dropHeating s).dose = s.dose ∧ (dropHeating s).dosing = s.dosing ∧ (dropHeating s).rod = s.rod ∧
    (dropHeating s).sup = s.sup ∧ (dropHeating s).mon = s.mon ∧ (dropHeating s).cal = s.cal ∧
    (dropHeating s).store = s.store ∧ (dropHeating s).notes = s.notes ∧ (dropHeating s).ports = s.ports := by
  simp only [dropHeating]
  all_goals simp

@[simp] theorem startAlternate_keeps (s : State) :
    (startAlternate s).pending = s.pending ∧ (startAlternate s).clock = s.clock ∧
    (startAlternate s).samples = s.samples ∧ (startAlternate s).prog = s.prog ∧ (startAlternate s).water = s.water ∧
    (startAlternate s).soft = s.soft ∧ (startAlternate s).dose = s.dose ∧ (startAlternate s).dosing = s.dosing ∧
    (startAlternate s).rod = s.rod ∧ (startAlternate s).sup = s.sup ∧ (startAlternate s).mon = s.mon ∧
    (startAlternate s).cal = s.cal ∧ (startAlternate s).store = s.store ∧ (startAlternate s).notes = s.notes ∧
    (startAlternate s).ports = s.ports := by
  simp only [startAlternate]
  repeat' split
  all_goals simp

@[simp] theorem startCirculation_keeps (r : PhaseRecord) (s : State) :
    (startCirculation r s).pending = s.pending ∧ (startCirculation r s).clock = s.clock ∧
    (startCirculation r s).samples = s.samples ∧ (startCirculation r s).prog = s.prog ∧
    (startCirculation r s).water = s.water ∧ (startCirculation r s).soft = s.soft ∧
    (startCirculation r s).dose = s.dose ∧ (startCirculation r s).dosing = s.dosing ∧
    (startCirculation r s).rod = s.rod ∧ (startCirculation r s).sup = s.sup ∧ (startCirculation r s).mon = s.mon ∧
    (startCirculation r s).cal = s.cal ∧ (startCirculation r s).store = s.store ∧
    (startCirculation r s).notes = s.notes ∧ (startCirculation r s).ports = s.ports := by
  simp only [startCirculation]
  all_goals simp

@[simp] theorem endCirculation_keeps (s : State) :
    (endCirculation s).pending = s.pending ∧ (endCirculation s).clock = s.clock ∧
    (endCirculation s).samples = s.samples ∧ (endCirculation s).prog = s.prog ∧ (endCirculation s).water = s.water ∧
    (endCirculation s).soft = s.soft ∧ (endCirculation s).dose = s.dose ∧ (endCirculation s).dosing = s.dosing ∧
    (endCirculation s).rod = s.rod ∧ (endCirculation s).sup = s.sup ∧ (endCirculation s).mon = s.mon ∧
    (endCirculation s).cal = s.cal ∧ (endCirculation s).store = s.store ∧ (endCirculation s).notes = s.notes ∧
    (endCirculation s).ports = s.ports := by
  simp only [endCirculation]
  all_goals simp

@[simp] theorem zeroDivStall_keeps (s : State) :
    (zeroDivStall s).pending = s.pending ∧ (zeroDivStall s).clock = s.clock ∧ (zeroDivStall s).samples = s.samples ∧
    (zeroDivStall s).prog = s.prog ∧ (zeroDivStall s).water = s.water ∧ (zeroDivStall s).soft = s.soft ∧
    (zeroDivStall s).dose = s.dose ∧ (zeroDivStall s).dosing = s.dosing ∧ (zeroDivStall s).rod = s.rod ∧
    (zeroDivStall s).sup = s.sup ∧ (zeroDivStall s).mon = s.mon ∧ (zeroDivStall s).cal = s.cal ∧
    (zeroDivStall s).store = s.store ∧ (zeroDivStall s).notes = s.notes ∧ (zeroDivStall s).ports = s.ports := by
  simp only [zeroDivStall]
  repeat' split
  all_goals simp

@[simp] theorem createDrain_keeps (kind : DrainKind) (window : Bool) (s : State) :
    (createDrain kind window s).pending = s.pending ∧ (createDrain kind window s).clock = s.clock ∧
    (createDrain kind window s).samples = s.samples ∧ (createDrain kind window s).prog = s.prog ∧
    (createDrain kind window s).water = s.water ∧ (createDrain kind window s).soft = s.soft ∧
    (createDrain kind window s).dose = s.dose ∧ (createDrain kind window s).dosing = s.dosing ∧
    (createDrain kind window s).rod = s.rod ∧ (createDrain kind window s).sup = s.sup ∧
    (createDrain kind window s).mon = s.mon ∧ (createDrain kind window s).cal = s.cal ∧
    (createDrain kind window s).store = s.store ∧ (createDrain kind window s).notes = s.notes ∧
    (createDrain kind window s).ports = s.ports := by
  simp only [createDrain]
  repeat' split
  all_goals simp

@[simp] theorem onDrain_keeps (f : DrainJob → DrainJob) (s : State) :
    (onDrain f s).pending = s.pending ∧ (onDrain f s).clock = s.clock ∧ (onDrain f s).samples = s.samples ∧
    (onDrain f s).prog = s.prog ∧ (onDrain f s).water = s.water ∧ (onDrain f s).soft = s.soft ∧
    (onDrain f s).dose = s.dose ∧ (onDrain f s).dosing = s.dosing ∧ (onDrain f s).rod = s.rod ∧
    (onDrain f s).sup = s.sup ∧ (onDrain f s).mon = s.mon ∧ (onDrain f s).cal = s.cal ∧
    (onDrain f s).store = s.store ∧ (onDrain f s).notes = s.notes ∧ (onDrain f s).ports = s.ports := by
  simp only [onDrain]
  all_goals simp

@[simp] theorem completeDrain_keeps (s : State) :
    (completeDrain s).pending = s.pending ∧ (completeDrain s).clock = s.clock ∧
    (completeDrain s).samples = s.samples ∧ (completeDrain s).water = s.water ∧ (completeDrain s).soft = s.soft ∧
    (completeDrain s).dose = s.dose ∧ (completeDrain s).dosing = s.dosing ∧ (completeDrain s).rod = s.rod ∧
    (completeDrain s).sup = s.sup ∧ (completeDrain s).mon = s.mon ∧ (completeDrain s).cal = s.cal ∧
    (completeDrain s).store = s.store ∧ (completeDrain s).notes = s.notes ∧ (completeDrain s).ports = s.ports := by
  simp only [completeDrain]
  repeat' split
  all_goals simp

@[simp] theorem endExtension_keeps (s : State) :
    (endExtension s).pending = s.pending ∧ (endExtension s).clock = s.clock ∧ (endExtension s).samples = s.samples ∧
    (endExtension s).water = s.water ∧ (endExtension s).soft = s.soft ∧ (endExtension s).dose = s.dose ∧
    (endExtension s).dosing = s.dosing ∧ (endExtension s).rod = s.rod ∧ (endExtension s).sup = s.sup ∧
    (endExtension s).mon = s.mon ∧ (endExtension s).cal = s.cal ∧ (endExtension s).store = s.store ∧
    (endExtension s).notes = s.notes ∧ (endExtension s).ports = s.ports := by
  simp only [endExtension]
  repeat' split
  all_goals simp

/-! ### Stages -/

@[simp] theorem endPhase_keeps (e : PhaseEnding) (s : State) :
    (endPhase e s).pending = s.pending ∧ (endPhase e s).clock = s.clock ∧ (endPhase e s).samples = s.samples ∧
    (endPhase e s).water = s.water ∧ (endPhase e s).soft = s.soft ∧ (endPhase e s).sup = s.sup ∧
    (endPhase e s).mon = s.mon ∧ (endPhase e s).cal = s.cal ∧ (endPhase e s).ports = s.ports := by
  simp only [endPhase]
  repeat' split
  all_goals simp

@[simp] theorem enterStage_keeps (st : Stage) (s : State) :
    (enterStage st s).pending = s.pending ∧ (enterStage st s).clock = s.clock ∧
    (enterStage st s).samples = s.samples ∧ (enterStage st s).water = s.water ∧ (enterStage st s).therm = s.therm ∧
    (enterStage st s).soft = s.soft ∧ (enterStage st s).dose = s.dose ∧ (enterStage st s).dosing = s.dosing ∧
    (enterStage st s).rod = s.rod ∧ (enterStage st s).sup = s.sup ∧ (enterStage st s).mon = s.mon ∧
    (enterStage st s).cal = s.cal ∧ (enterStage st s).store = s.store ∧ (enterStage st s).notes = s.notes ∧
    (enterStage st s).ports = s.ports := by
  simp only [enterStage]
  all_goals simp

@[simp] theorem holdingOver_keeps (reading : Turbidity) (r : PhaseRecord) (s : State) :
    (holdingOver reading r s).pending = s.pending ∧ (holdingOver reading r s).clock = s.clock ∧
    (holdingOver reading r s).samples = s.samples ∧ (holdingOver reading r s).water = s.water ∧
    (holdingOver reading r s).soft = s.soft ∧ (holdingOver reading r s).dose = s.dose ∧
    (holdingOver reading r s).dosing = s.dosing ∧ (holdingOver reading r s).rod = s.rod ∧
    (holdingOver reading r s).sup = s.sup ∧ (holdingOver reading r s).mon = s.mon ∧
    (holdingOver reading r s).cal = s.cal ∧ (holdingOver reading r s).store = s.store ∧
    (holdingOver reading r s).ports = s.ports := by
  simp only [holdingOver]
  repeat' split
  all_goals simp

@[simp] theorem drawTurbidity_keeps (s : State) :
    (drawTurbidity s).2 = { s with samples := s.samples + 1 } := rfl

@[simp] theorem enterHolding_keeps (r : PhaseRecord) (s : State) :
    (enterHolding r s).pending = s.pending ∧ (enterHolding r s).clock = s.clock ∧ (enterHolding r s).water = s.water ∧
    (enterHolding r s).soft = s.soft ∧ (enterHolding r s).dose = s.dose ∧ (enterHolding r s).dosing = s.dosing ∧
    (enterHolding r s).rod = s.rod ∧ (enterHolding r s).sup = s.sup ∧ (enterHolding r s).mon = s.mon ∧
    (enterHolding r s).cal = s.cal ∧ (enterHolding r s).store = s.store ∧ (enterHolding r s).ports = s.ports := by
  simp only [enterHolding]
  repeat' split
  all_goals simp

@[simp] theorem enterHeating_keeps (r : PhaseRecord) (s : State) :
    (enterHeating r s).pending = s.pending ∧ (enterHeating r s).clock = s.clock ∧ (enterHeating r s).water = s.water ∧
    (enterHeating r s).soft = s.soft ∧ (enterHeating r s).dose = s.dose ∧ (enterHeating r s).dosing = s.dosing ∧
    (enterHeating r s).rod = s.rod ∧ (enterHeating r s).sup = s.sup ∧ (enterHeating r s).mon = s.mon ∧
    (enterHeating r s).cal = s.cal ∧ (enterHeating r s).store = s.store ∧ (enterHeating r s).ports = s.ports := by
  simp only [enterHeating]
  repeat' split
  all_goals simp

@[simp] theorem enterAfterFilling_keeps (r : PhaseRecord) (s : State) :
    (enterAfterFilling r s).pending = s.pending ∧ (enterAfterFilling r s).clock = s.clock ∧
    (enterAfterFilling r s).water = s.water ∧ (enterAfterFilling r s).soft = s.soft ∧
    (enterAfterFilling r s).rod = s.rod ∧ (enterAfterFilling r s).sup = s.sup ∧ (enterAfterFilling r s).mon = s.mon ∧
    (enterAfterFilling r s).cal = s.cal ∧ (enterAfterFilling r s).store = s.store ∧
    (enterAfterFilling r s).ports = s.ports := by
  simp only [enterAfterFilling]
  repeat' split
  all_goals simp

@[simp] theorem enterDraining_keeps (r : PhaseRecord) (s : State) :
    (enterDraining r s).pending = s.pending ∧ (enterDraining r s).clock = s.clock ∧
    (enterDraining r s).samples = s.samples ∧ (enterDraining r s).water = s.water ∧
    (enterDraining r s).soft = s.soft ∧ (enterDraining r s).dose = s.dose ∧ (enterDraining r s).dosing = s.dosing ∧
    (enterDraining r s).rod = s.rod ∧ (enterDraining r s).sup = s.sup ∧ (enterDraining r s).mon = s.mon ∧
    (enterDraining r s).cal = s.cal ∧ (enterDraining r s).store = s.store ∧ (enterDraining r s).notes = s.notes ∧
    (enterDraining r s).ports = s.ports := by
  simp only [enterDraining]
  all_goals simp

@[simp] theorem enterDryWait_keeps (r : PhaseRecord) (s : State) :
    (enterDryWait r s).pending = s.pending ∧ (enterDryWait r s).clock = s.clock ∧
    (enterDryWait r s).samples = s.samples ∧ (enterDryWait r s).water = s.water ∧ (enterDryWait r s).therm = s.therm ∧
    (enterDryWait r s).soft = s.soft ∧ (enterDryWait r s).dose = s.dose ∧ (enterDryWait r s).dosing = s.dosing ∧
    (enterDryWait r s).sup = s.sup ∧ (enterDryWait r s).mon = s.mon ∧ (enterDryWait r s).cal = s.cal ∧
    (enterDryWait r s).store = s.store ∧ (enterDryWait r s).notes = s.notes ∧ (enterDryWait r s).ports = s.ports := by
  simp only [enterDryWait]
  repeat' split
  all_goals simp

@[simp] theorem enterOpening_keeps (s : State) :
    (enterOpening s).pending = s.pending ∧ (enterOpening s).clock = s.clock ∧ (enterOpening s).samples = s.samples ∧
    (enterOpening s).water = s.water ∧ (enterOpening s).therm = s.therm ∧ (enterOpening s).soft = s.soft ∧
    (enterOpening s).dose = s.dose ∧ (enterOpening s).dosing = s.dosing ∧ (enterOpening s).sup = s.sup ∧
    (enterOpening s).mon = s.mon ∧ (enterOpening s).cal = s.cal ∧ (enterOpening s).store = s.store ∧
    (enterOpening s).notes = s.notes ∧ (enterOpening s).ports = s.ports := by
  simp only [enterOpening]
  repeat' split
  all_goals simp

@[simp] theorem enterAiring_keeps (r : PhaseRecord) (s : State) :
    (enterAiring r s).pending = s.pending ∧ (enterAiring r s).clock = s.clock ∧
    (enterAiring r s).samples = s.samples ∧ (enterAiring r s).water = s.water ∧ (enterAiring r s).therm = s.therm ∧
    (enterAiring r s).soft = s.soft ∧ (enterAiring r s).dose = s.dose ∧ (enterAiring r s).dosing = s.dosing ∧
    (enterAiring r s).sup = s.sup ∧ (enterAiring r s).mon = s.mon ∧ (enterAiring r s).cal = s.cal ∧
    (enterAiring r s).store = s.store ∧ (enterAiring r s).notes = s.notes ∧ (enterAiring r s).ports = s.ports := by
  simp only [enterAiring]
  repeat' split
  all_goals simp

@[simp] theorem enterRetracting_keeps (s : State) :
    (enterRetracting s).pending = s.pending ∧ (enterRetracting s).clock = s.clock ∧
    (enterRetracting s).samples = s.samples ∧ (enterRetracting s).water = s.water ∧
    (enterRetracting s).therm = s.therm ∧ (enterRetracting s).soft = s.soft ∧ (enterRetracting s).dose = s.dose ∧
    (enterRetracting s).dosing = s.dosing ∧ (enterRetracting s).sup = s.sup ∧ (enterRetracting s).mon = s.mon ∧
    (enterRetracting s).cal = s.cal ∧ (enterRetracting s).store = s.store ∧ (enterRetracting s).ports = s.ports := by
  simp only [enterRetracting]
  all_goals simp

@[simp] theorem beginPhase_keeps (first : Bool) (s : State) :
    (beginPhase first s).pending = s.pending ∧ (beginPhase first s).clock = s.clock ∧
    (beginPhase first s).samples = s.samples ∧ (beginPhase first s).therm = s.therm ∧
    (beginPhase first s).soft = s.soft ∧ (beginPhase first s).dose = s.dose ∧ (beginPhase first s).dosing = s.dosing ∧
    (beginPhase first s).sup = s.sup ∧ (beginPhase first s).mon = s.mon ∧ (beginPhase first s).cal = s.cal ∧
    (beginPhase first s).store = s.store ∧ (beginPhase first s).notes = s.notes ∧
    (beginPhase first s).ports = s.ports := by
  simp only [beginPhase]
  repeat' split
  all_goals simp

@[simp] theorem nextOrEnd_keeps (s : State) :
    (nextOrEnd s).pending = s.pending ∧ (nextOrEnd s).clock = s.clock ∧ (nextOrEnd s).samples = s.samples ∧
    (nextOrEnd s).therm = s.therm ∧ (nextOrEnd s).soft = s.soft ∧ (nextOrEnd s).dose = s.dose ∧
    (nextOrEnd s).dosing = s.dosing ∧ (nextOrEnd s).sup = s.sup ∧ (nextOrEnd s).mon = s.mon ∧
    (nextOrEnd s).cal = s.cal ∧ (nextOrEnd s).store = s.store ∧ (nextOrEnd s).ports = s.ports := by
  simp only [nextOrEnd]
  repeat' split
  all_goals simp

@[simp] theorem leaveStage_keeps (r : PhaseRecord) (ph : RunningPhase) (e : StageEnd) (s : State) :
    (leaveStage r ph e s).pending = s.pending ∧ (leaveStage r ph e s).clock = s.clock ∧
    (leaveStage r ph e s).soft = s.soft ∧ (leaveStage r ph e s).sup = s.sup ∧ (leaveStage r ph e s).mon = s.mon ∧
    (leaveStage r ph e s).cal = s.cal ∧ (leaveStage r ph e s).ports = s.ports := by
  simp only [leaveStage]
  repeat' split
  all_goals simp

@[simp] theorem stepStage_keeps (s : State) :
    (stepStage s).pending = s.pending ∧ (stepStage s).clock = s.clock ∧ (stepStage s).soft = s.soft ∧
    (stepStage s).sup = s.sup ∧ (stepStage s).mon = s.mon ∧ (stepStage s).cal = s.cal ∧
    (stepStage s).ports = s.ports := by
  simp only [stepStage]
  repeat' split
  all_goals simp

@[simp] theorem watchDoor_keeps (s : State) :
    (watchDoor s).pending = s.pending ∧ (watchDoor s).clock = s.clock ∧ (watchDoor s).samples = s.samples ∧
    (watchDoor s).water = s.water ∧ (watchDoor s).therm = s.therm ∧ (watchDoor s).soft = s.soft ∧
    (watchDoor s).dose = s.dose ∧ (watchDoor s).dosing = s.dosing ∧ (watchDoor s).rod = s.rod ∧
    (watchDoor s).sup = s.sup ∧ (watchDoor s).mon = s.mon ∧ (watchDoor s).cal = s.cal ∧
    (watchDoor s).store = s.store ∧ (watchDoor s).notes = s.notes ∧ (watchDoor s).ports = s.ports := by
  simp only [watchDoor]
  repeat' split
  all_goals simp

@[simp] theorem placeDemands_keeps (s : State) :
    (placeDemands s).pending = s.pending ∧ (placeDemands s).clock = s.clock ∧ (placeDemands s).samples = s.samples ∧
    (placeDemands s).water = s.water ∧ (placeDemands s).soft = s.soft ∧ (placeDemands s).rod = s.rod ∧
    (placeDemands s).sup = s.sup ∧ (placeDemands s).mon = s.mon ∧ (placeDemands s).cal = s.cal ∧
    (placeDemands s).store = s.store ∧ (placeDemands s).ports = s.ports := by
  simp only [placeDemands]
  repeat' split
  all_goals simp

@[simp] theorem followOutputs_keeps (s : State) :
    (followOutputs s).pending = s.pending ∧ (followOutputs s).clock = s.clock ∧
    (followOutputs s).samples = s.samples ∧ (followOutputs s).soft = s.soft ∧ (followOutputs s).dose = s.dose ∧
    (followOutputs s).sup = s.sup ∧ (followOutputs s).mon = s.mon ∧ (followOutputs s).cal = s.cal ∧
    (followOutputs s).store = s.store ∧ (followOutputs s).notes = s.notes ∧ (followOutputs s).ports = s.ports := by
  simp only [followOutputs]
  repeat' split
  all_goals simp

@[simp] theorem runStages_keeps (n : Nat) (s : State) :
    (runStages n s).pending = s.pending ∧ (runStages n s).clock = s.clock ∧ (runStages n s).soft = s.soft ∧
    (runStages n s).sup = s.sup ∧ (runStages n s).mon = s.mon ∧ (runStages n s).cal = s.cal ∧
    (runStages n s).ports = s.ports := by
  induction n generalizing s with
  | zero => simp [runStages]
  | succ n ih =>
    simp only [runStages]
    repeat' split
    all_goals simp [ih]

@[simp] theorem finish_keeps (s : State) :
    (finish s).pending = s.pending ∧ (finish s).clock = s.clock ∧ (finish s).soft = s.soft ∧ (finish s).sup = s.sup ∧
    (finish s).mon = s.mon ∧ (finish s).cal = s.cal ∧ (finish s).ports = s.ports := by
  simp only [finish]
  all_goals simp

@[simp] theorem wakeUp_keeps (cause : WakeCause) (s : State) :
    (wakeUp cause s).pending = s.pending ∧ (wakeUp cause s).clock = s.clock ∧ (wakeUp cause s).soft = s.soft ∧
    (wakeUp cause s).mon = s.mon ∧ (wakeUp cause s).cal = s.cal ∧ (wakeUp cause s).ports = s.ports := by
  simp only [wakeUp]
  repeat' split
  all_goals simp

/-! ### Softener -/

@[simp] theorem afterRegen_keeps (aborted : Bool) (s : State) :
    (afterRegen aborted s).pending = s.pending ∧ (afterRegen aborted s).clock = s.clock ∧
    (afterRegen aborted s).samples = s.samples ∧ (afterRegen aborted s).water = s.water ∧
    (afterRegen aborted s).dose = s.dose ∧ (afterRegen aborted s).dosing = s.dosing ∧
    (afterRegen aborted s).rod = s.rod ∧ (afterRegen aborted s).sup = s.sup ∧ (afterRegen aborted s).mon = s.mon ∧
    (afterRegen aborted s).cal = s.cal ∧ (afterRegen aborted s).store = s.store ∧
    (afterRegen aborted s).notes = s.notes ∧ (afterRegen aborted s).ports = s.ports := by
  simp only [afterRegen]
  repeat' split
  all_goals simp

@[simp] theorem restore_keeps (s : State) :
    (restore s).pending = s.pending ∧ (restore s).clock = s.clock ∧ (restore s).samples = s.samples ∧
    (restore s).water = s.water ∧ (restore s).dose = s.dose ∧ (restore s).dosing = s.dosing ∧
    (restore s).rod = s.rod ∧ (restore s).sup = s.sup ∧ (restore s).mon = s.mon ∧ (restore s).cal = s.cal ∧
    (restore s).ports = s.ports := by
  simp only [restore]
  all_goals simp

@[simp] theorem abortRegen_keeps (s : State) :
    (abortRegen s).pending = s.pending ∧ (abortRegen s).clock = s.clock ∧ (abortRegen s).samples = s.samples ∧
    (abortRegen s).dose = s.dose ∧ (abortRegen s).dosing = s.dosing ∧ (abortRegen s).rod = s.rod ∧
    (abortRegen s).sup = s.sup ∧ (abortRegen s).mon = s.mon ∧ (abortRegen s).cal = s.cal ∧
    (abortRegen s).store = s.store ∧ (abortRegen s).notes = s.notes ∧ (abortRegen s).ports = s.ports := by
  simp only [abortRegen]
  repeat' split
  all_goals simp

@[simp] theorem windowClosed_keeps (s : State) :
    (windowClosed s).pending = s.pending ∧ (windowClosed s).clock = s.clock ∧ (windowClosed s).samples = s.samples ∧
    (windowClosed s).dose = s.dose ∧ (windowClosed s).dosing = s.dosing ∧ (windowClosed s).rod = s.rod ∧
    (windowClosed s).sup = s.sup ∧ (windowClosed s).mon = s.mon ∧ (windowClosed s).cal = s.cal ∧
    (windowClosed s).ports = s.ports := by
  simp only [windowClosed]
  repeat' split
  all_goals simp

@[simp] theorem softFinal_keeps (owner : WindowOwner) (c : Option SoftCounter) (s : State) :
    (softFinal owner c s).pending = s.pending ∧ (softFinal owner c s).clock = s.clock ∧
    (softFinal owner c s).samples = s.samples ∧ (softFinal owner c s).water = s.water ∧
    (softFinal owner c s).dose = s.dose ∧ (softFinal owner c s).dosing = s.dosing ∧
    (softFinal owner c s).rod = s.rod ∧ (softFinal owner c s).sup = s.sup ∧ (softFinal owner c s).mon = s.mon ∧
    (softFinal owner c s).cal = s.cal ∧ (softFinal owner c s).ports = s.ports := by
  simp only [softFinal]
  repeat' split
  all_goals simp

@[simp] theorem enterFlush_keeps (k : WindowKind) (s : State) :
    (enterFlush k s).pending = s.pending ∧ (enterFlush k s).clock = s.clock ∧ (enterFlush k s).samples = s.samples ∧
    (enterFlush k s).prog = s.prog ∧ (enterFlush k s).water = s.water ∧ (enterFlush k s).therm = s.therm ∧
    (enterFlush k s).dose = s.dose ∧ (enterFlush k s).dosing = s.dosing ∧ (enterFlush k s).rod = s.rod ∧
    (enterFlush k s).sup = s.sup ∧ (enterFlush k s).mon = s.mon ∧ (enterFlush k s).cal = s.cal ∧
    (enterFlush k s).store = s.store ∧ (enterFlush k s).notes = s.notes ∧ (enterFlush k s).ports = s.ports := by
  simp only [enterFlush]
  all_goals simp

/-! ### Control -/

@[simp] theorem enterRunning_keeps (s : State) :
    (enterRunning s).pending = s.pending ∧ (enterRunning s).clock = s.clock ∧ (enterRunning s).samples = s.samples ∧
    (enterRunning s).therm = s.therm ∧ (enterRunning s).dose = s.dose ∧ (enterRunning s).dosing = s.dosing ∧
    (enterRunning s).sup = s.sup ∧ (enterRunning s).mon = s.mon ∧ (enterRunning s).cal = s.cal ∧
    (enterRunning s).store = s.store ∧ (enterRunning s).notes = s.notes ∧ (enterRunning s).ports = s.ports := by
  simp only [enterRunning]
  all_goals simp

@[simp] theorem startCommon_keeps (s : State) :
    (startCommon s).pending = s.pending ∧ (startCommon s).clock = s.clock ∧ (startCommon s).samples = s.samples ∧
    (startCommon s).water = s.water ∧ (startCommon s).soft = s.soft ∧ (startCommon s).dose = s.dose ∧
    (startCommon s).dosing = s.dosing ∧ (startCommon s).sup = s.sup ∧ (startCommon s).mon = s.mon ∧
    (startCommon s).cal = s.cal ∧ (startCommon s).store = s.store ∧ (startCommon s).ports = s.ports := by
  simp only [startCommon]
  repeat' split
  all_goals simp

@[simp] theorem withdrawPhaseWork_keeps (s : State) :
    (withdrawPhaseWork s).pending = s.pending ∧ (withdrawPhaseWork s).clock = s.clock ∧
    (withdrawPhaseWork s).samples = s.samples ∧ (withdrawPhaseWork s).prog = s.prog ∧
    (withdrawPhaseWork s).soft = s.soft ∧ (withdrawPhaseWork s).sup = s.sup ∧ (withdrawPhaseWork s).mon = s.mon ∧
    (withdrawPhaseWork s).cal = s.cal ∧ (withdrawPhaseWork s).store = s.store ∧
    (withdrawPhaseWork s).notes = s.notes ∧ (withdrawPhaseWork s).ports = s.ports := by
  simp only [withdrawPhaseWork]
  repeat' split
  all_goals simp

@[simp] theorem abandonPhase_keeps (e : PhaseEnding) (s : State) :
    (abandonPhase e s).pending = s.pending ∧ (abandonPhase e s).clock = s.clock ∧
    (abandonPhase e s).samples = s.samples ∧ (abandonPhase e s).soft = s.soft ∧ (abandonPhase e s).sup = s.sup ∧
    (abandonPhase e s).mon = s.mon ∧ (abandonPhase e s).cal = s.cal ∧ (abandonPhase e s).ports = s.ports := by
  simp only [abandonPhase]
  repeat' split
  all_goals simp

@[simp] theorem faultProgram_keeps (s : State) :
    (faultProgram s).pending = s.pending ∧ (faultProgram s).clock = s.clock ∧ (faultProgram s).samples = s.samples ∧
    (faultProgram s).soft = s.soft ∧ (faultProgram s).sup = s.sup ∧ (faultProgram s).mon = s.mon ∧
    (faultProgram s).cal = s.cal ∧ (faultProgram s).ports = s.ports := by
  simp only [faultProgram]
  repeat' split
  all_goals simp

@[simp] theorem faultAndClose_keeps (s : State) :
    (faultAndClose s).pending = s.pending ∧ (faultAndClose s).clock = s.clock ∧
    (faultAndClose s).samples = s.samples ∧ (faultAndClose s).sup = s.sup ∧ (faultAndClose s).mon = s.mon ∧
    (faultAndClose s).cal = s.cal ∧ (faultAndClose s).ports = s.ports := by
  simp only [faultAndClose]
  repeat' split
  all_goals simp

@[simp] theorem cancelQueue_keeps (q : List PhaseRecord) (s : State) :
    (cancelQueue q s).pending = s.pending ∧ (cancelQueue q s).clock = s.clock ∧
    (cancelQueue q s).samples = s.samples ∧ (cancelQueue q s).water = s.water ∧
    (cancelQueue q s).therm = s.therm ∧ (cancelQueue q s).soft = s.soft ∧ (cancelQueue q s).dose = s.dose ∧
    (cancelQueue q s).dosing = s.dosing ∧ (cancelQueue q s).rod = s.rod ∧ (cancelQueue q s).sup = s.sup ∧
    (cancelQueue q s).mon = s.mon ∧ (cancelQueue q s).cal = s.cal ∧ (cancelQueue q s).ports = s.ports := by
  induction q generalizing s with
  | nil => simp [cancelQueue]
  | cons r rest ih => simp only [cancelQueue, ih]; simp

@[simp] theorem enterCancelling_keeps (s : State) :
    (enterCancelling s).pending = s.pending ∧ (enterCancelling s).clock = s.clock ∧
    (enterCancelling s).samples = s.samples ∧ (enterCancelling s).water = s.water ∧
    (enterCancelling s).dose = s.dose ∧ (enterCancelling s).dosing = s.dosing ∧ (enterCancelling s).rod = s.rod ∧
    (enterCancelling s).sup = s.sup ∧ (enterCancelling s).mon = s.mon ∧ (enterCancelling s).cal = s.cal ∧
    (enterCancelling s).store = s.store ∧ (enterCancelling s).notes = s.notes ∧
    (enterCancelling s).ports = s.ports := by
  simp only [enterCancelling]
  all_goals simp

@[simp] theorem cancelProgram_keeps (s : State) :
    (cancelProgram s).pending = s.pending ∧ (cancelProgram s).clock = s.clock ∧
    (cancelProgram s).samples = s.samples ∧ (cancelProgram s).sup = s.sup ∧ (cancelProgram s).mon = s.mon ∧
    (cancelProgram s).cal = s.cal ∧ (cancelProgram s).ports = s.ports := by
  simp only [cancelProgram]
  repeat' split
  all_goals simp

@[simp] theorem returnToNormal_keeps (s : State) :
    (returnToNormal s).pending = s.pending ∧ (returnToNormal s).clock = s.clock ∧
    (returnToNormal s).samples = s.samples ∧ (returnToNormal s).prog = s.prog ∧ (returnToNormal s).therm = s.therm ∧
    (returnToNormal s).soft = s.soft ∧ (returnToNormal s).dose = s.dose ∧ (returnToNormal s).dosing = s.dosing ∧
    (returnToNormal s).mon = s.mon ∧ (returnToNormal s).cal = s.cal ∧ (returnToNormal s).store = s.store ∧
    (returnToNormal s).notes = s.notes ∧ (returnToNormal s).ports = s.ports := by
  simp only [returnToNormal]
  repeat' split
  all_goals simp

/-! ### Serve -/

@[simp] theorem onPort_keeps (p : Port) (f : PortState → PortState) (s : State) :
    (onPort p f s).pending = s.pending ∧ (onPort p f s).clock = s.clock ∧ (onPort p f s).samples = s.samples ∧
    (onPort p f s).prog = s.prog ∧ (onPort p f s).water = s.water ∧ (onPort p f s).therm = s.therm ∧
    (onPort p f s).soft = s.soft ∧ (onPort p f s).dose = s.dose ∧ (onPort p f s).dosing = s.dosing ∧
    (onPort p f s).rod = s.rod ∧ (onPort p f s).sup = s.sup ∧ (onPort p f s).mon = s.mon ∧
    (onPort p f s).cal = s.cal ∧ (onPort p f s).store = s.store ∧ (onPort p f s).notes = s.notes := by
  simp only [onPort]
  all_goals simp

@[simp] theorem answer_keeps (p : Port) (r : Reply) (s : State) :
    (answer p r s).pending = s.pending ∧ (answer p r s).clock = s.clock ∧ (answer p r s).samples = s.samples ∧
    (answer p r s).prog = s.prog ∧ (answer p r s).water = s.water ∧ (answer p r s).therm = s.therm ∧
    (answer p r s).soft = s.soft ∧ (answer p r s).dose = s.dose ∧ (answer p r s).dosing = s.dosing ∧
    (answer p r s).rod = s.rod ∧ (answer p r s).sup = s.sup ∧ (answer p r s).mon = s.mon ∧
    (answer p r s).cal = s.cal ∧ (answer p r s).store = s.store ∧ (answer p r s).notes = s.notes := by
  simp only [answer]
  all_goals simp

/-! ### SettingRequests -/

@[simp] theorem settingChanged_keeps (p : Port) (s : State) :
    (settingChanged p s).pending = s.pending ∧ (settingChanged p s).clock = s.clock ∧
    (settingChanged p s).samples = s.samples ∧ (settingChanged p s).prog = s.prog ∧
    (settingChanged p s).water = s.water ∧ (settingChanged p s).therm = s.therm ∧ (settingChanged p s).soft = s.soft ∧
    (settingChanged p s).dose = s.dose ∧ (settingChanged p s).dosing = s.dosing ∧ (settingChanged p s).rod = s.rod ∧
    (settingChanged p s).sup = s.sup ∧ (settingChanged p s).mon = s.mon ∧ (settingChanged p s).cal = s.cal ∧
    (settingChanged p s).ports = s.ports := by
  simp only [settingChanged]
  repeat' split
  all_goals simp

@[simp] theorem cutAccount_keeps (r : Reservoir) (s : State) :
    (cutAccount r s).pending = s.pending ∧ (cutAccount r s).clock = s.clock ∧ (cutAccount r s).samples = s.samples ∧
    (cutAccount r s).prog = s.prog ∧ (cutAccount r s).water = s.water ∧ (cutAccount r s).therm = s.therm ∧
    (cutAccount r s).soft = s.soft ∧ (cutAccount r s).dose = s.dose ∧ (cutAccount r s).rod = s.rod ∧
    (cutAccount r s).sup = s.sup ∧ (cutAccount r s).mon = s.mon ∧ (cutAccount r s).cal = s.cal ∧
    (cutAccount r s).store = s.store ∧ (cutAccount r s).notes = s.notes ∧ (cutAccount r s).ports = s.ports := by
  simp only [cutAccount]
  all_goals simp

@[simp] theorem startAfterRun_keeps (s : State) :
    (startAfterRun s).pending = s.pending ∧ (startAfterRun s).clock = s.clock ∧
    (startAfterRun s).samples = s.samples ∧ (startAfterRun s).prog = s.prog ∧ (startAfterRun s).water = s.water ∧
    (startAfterRun s).therm = s.therm ∧ (startAfterRun s).soft = s.soft ∧ (startAfterRun s).dose = s.dose ∧
    (startAfterRun s).dosing = s.dosing ∧ (startAfterRun s).rod = s.rod ∧ (startAfterRun s).mon = s.mon ∧
    (startAfterRun s).cal = s.cal ∧ (startAfterRun s).store = s.store ∧ (startAfterRun s).notes = s.notes ∧
    (startAfterRun s).ports = s.ports := by
  simp only [startAfterRun]
  all_goals simp

/-! ### ModeRequests -/

@[simp] theorem overrideInlet_keeps (on : Bool) (s : State) :
    (overrideInlet on s).pending = s.pending ∧ (overrideInlet on s).clock = s.clock ∧
    (overrideInlet on s).samples = s.samples ∧ (overrideInlet on s).prog = s.prog ∧
    (overrideInlet on s).therm = s.therm ∧ (overrideInlet on s).soft = s.soft ∧ (overrideInlet on s).dose = s.dose ∧
    (overrideInlet on s).dosing = s.dosing ∧ (overrideInlet on s).rod = s.rod ∧ (overrideInlet on s).mon = s.mon ∧
    (overrideInlet on s).cal = s.cal ∧ (overrideInlet on s).store = s.store ∧ (overrideInlet on s).notes = s.notes ∧
    (overrideInlet on s).ports = s.ports := by
  simp only [overrideInlet]
  repeat' split
  all_goals simp

@[simp] theorem setOverride_keeps (output value : Nat) (s : State) :
    (setOverride output value s).pending = s.pending ∧ (setOverride output value s).clock = s.clock ∧
    (setOverride output value s).samples = s.samples ∧ (setOverride output value s).prog = s.prog ∧
    (setOverride output value s).therm = s.therm ∧ (setOverride output value s).soft = s.soft ∧
    (setOverride output value s).dose = s.dose ∧ (setOverride output value s).dosing = s.dosing ∧
    (setOverride output value s).rod = s.rod ∧ (setOverride output value s).mon = s.mon ∧
    (setOverride output value s).cal = s.cal ∧ (setOverride output value s).store = s.store ∧
    (setOverride output value s).notes = s.notes ∧ (setOverride output value s).ports = s.ports := by
  simp only [setOverride]
  repeat' split
  all_goals simp

/-! ### InputEvents -/

@[simp] theorem rawChange_keeps (i : SwitchInput) (v : Bool) (s : State) :
    (rawChange i v s).pending = s.pending ∧ (rawChange i v s).clock = s.clock ∧
    (rawChange i v s).samples = s.samples ∧ (rawChange i v s).prog = s.prog ∧ (rawChange i v s).water = s.water ∧
    (rawChange i v s).therm = s.therm ∧ (rawChange i v s).soft = s.soft ∧ (rawChange i v s).dose = s.dose ∧
    (rawChange i v s).dosing = s.dosing ∧ (rawChange i v s).rod = s.rod ∧ (rawChange i v s).sup = s.sup ∧
    (rawChange i v s).cal = s.cal ∧ (rawChange i v s).store = s.store ∧ (rawChange i v s).notes = s.notes ∧
    (rawChange i v s).ports = s.ports := by
  simp only [rawChange]
  repeat' split
  all_goals simp

@[simp] theorem doorActs_keeps (closed : Bool) (s : State) :
    (doorActs closed s).pending = s.pending ∧ (doorActs closed s).clock = s.clock ∧
    (doorActs closed s).samples = s.samples ∧ (doorActs closed s).water = s.water ∧
    (doorActs closed s).therm = s.therm ∧ (doorActs closed s).soft = s.soft ∧ (doorActs closed s).dose = s.dose ∧
    (doorActs closed s).dosing = s.dosing ∧ (doorActs closed s).sup = s.sup ∧ (doorActs closed s).mon = s.mon ∧
    (doorActs closed s).cal = s.cal ∧ (doorActs closed s).store = s.store ∧ (doorActs closed s).notes = s.notes ∧
    (doorActs closed s).ports = s.ports := by
  simp only [doorActs]
  repeat' split
  all_goals simp

@[simp] theorem endServiceOverfill_keeps (s : State) :
    (endServiceOverfill s).pending = s.pending ∧ (endServiceOverfill s).clock = s.clock ∧
    (endServiceOverfill s).samples = s.samples ∧ (endServiceOverfill s).prog = s.prog ∧
    (endServiceOverfill s).therm = s.therm ∧ (endServiceOverfill s).soft = s.soft ∧
    (endServiceOverfill s).dose = s.dose ∧ (endServiceOverfill s).dosing = s.dosing ∧
    (endServiceOverfill s).rod = s.rod ∧ (endServiceOverfill s).sup = s.sup ∧ (endServiceOverfill s).mon = s.mon ∧
    (endServiceOverfill s).cal = s.cal ∧ (endServiceOverfill s).store = s.store ∧
    (endServiceOverfill s).notes = s.notes ∧ (endServiceOverfill s).ports = s.ports := by
  simp only [endServiceOverfill]
  all_goals simp

@[simp] theorem leakFaults_keeps (s : State) :
    (leakFaults s).pending = s.pending ∧ (leakFaults s).clock = s.clock ∧ (leakFaults s).samples = s.samples ∧
    (leakFaults s).soft = s.soft ∧ (leakFaults s).sup = s.sup ∧ (leakFaults s).mon = s.mon ∧
    (leakFaults s).cal = s.cal ∧ (leakFaults s).ports = s.ports := by
  simp only [leakFaults]
  repeat' split
  all_goals simp

/-! ### WaterEvents -/

@[simp] theorem setInletLeak_keeps (s : State) :
    (setInletLeak s).pending = s.pending ∧ (setInletLeak s).clock = s.clock ∧ (setInletLeak s).samples = s.samples ∧
    (setInletLeak s).sup = s.sup ∧ (setInletLeak s).mon = s.mon ∧ (setInletLeak s).cal = s.cal ∧
    (setInletLeak s).ports = s.ports := by
  simp only [setInletLeak]
  repeat' split
  all_goals simp

@[simp] theorem unattributedPulse_keeps (s : State) :
    (unattributedPulse s).pending = s.pending ∧ (unattributedPulse s).clock = s.clock ∧
    (unattributedPulse s).samples = s.samples ∧ (unattributedPulse s).sup = s.sup ∧
    (unattributedPulse s).mon = s.mon ∧ (unattributedPulse s).cal = s.cal ∧
    (unattributedPulse s).ports = s.ports := by
  simp only [unattributedPulse]
  repeat' split
  all_goals simp

@[simp] theorem pulseRecord_keeps (r : FillRecord) (s : State) :
    (pulseRecord r s).2.pending = s.pending ∧ (pulseRecord r s).2.clock = s.clock ∧
    (pulseRecord r s).2.samples = s.samples ∧ (pulseRecord r s).2.prog = s.prog ∧
    (pulseRecord r s).2.water = s.water ∧ (pulseRecord r s).2.therm = s.therm ∧
    (pulseRecord r s).2.dose = s.dose ∧ (pulseRecord r s).2.dosing = s.dosing ∧
    (pulseRecord r s).2.rod = s.rod ∧ (pulseRecord r s).2.sup = s.sup ∧ (pulseRecord r s).2.mon = s.mon ∧
    (pulseRecord r s).2.cal = s.cal ∧ (pulseRecord r s).2.store = s.store ∧
    (pulseRecord r s).2.notes = s.notes ∧ (pulseRecord r s).2.ports = s.ports := by
  simp only [pulseRecord]
  split <;> simp

@[simp] theorem currentPulse_keeps (r : FillRecord) (s : State) :
    (currentPulse r s).pending = s.pending ∧ (currentPulse r s).clock = s.clock ∧
    (currentPulse r s).samples = s.samples ∧ (currentPulse r s).prog = s.prog ∧ (currentPulse r s).therm = s.therm ∧
    (currentPulse r s).dose = s.dose ∧ (currentPulse r s).dosing = s.dosing ∧ (currentPulse r s).rod = s.rod ∧
    (currentPulse r s).sup = s.sup ∧ (currentPulse r s).mon = s.mon ∧ (currentPulse r s).cal = s.cal ∧
    (currentPulse r s).store = s.store ∧ (currentPulse r s).notes = s.notes ∧ (currentPulse r s).ports = s.ports := by
  simp only [currentPulse]
  all_goals simp

@[simp] theorem servicePulse_keeps (s : State) :
    (servicePulse s).pending = s.pending ∧ (servicePulse s).clock = s.clock ∧ (servicePulse s).samples = s.samples ∧
    (servicePulse s).sup = s.sup ∧ (servicePulse s).mon = s.mon ∧ (servicePulse s).cal = s.cal ∧
    (servicePulse s).ports = s.ports := by
  simp only [servicePulse]
  repeat' split
  all_goals simp

@[simp] theorem endIfMet_keeps (demanded met : Bool) (s : State) :
    (endIfMet demanded met s).pending = s.pending ∧ (endIfMet demanded met s).clock = s.clock ∧
    (endIfMet demanded met s).samples = s.samples ∧ (endIfMet demanded met s).prog = s.prog ∧
    (endIfMet demanded met s).therm = s.therm ∧ (endIfMet demanded met s).soft = s.soft ∧
    (endIfMet demanded met s).dose = s.dose ∧ (endIfMet demanded met s).dosing = s.dosing ∧
    (endIfMet demanded met s).rod = s.rod ∧ (endIfMet demanded met s).sup = s.sup ∧
    (endIfMet demanded met s).mon = s.mon ∧ (endIfMet demanded met s).cal = s.cal ∧
    (endIfMet demanded met s).store = s.store ∧ (endIfMet demanded met s).notes = s.notes ∧
    (endIfMet demanded met s).ports = s.ports := by
  simp only [endIfMet]
  repeat' split
  all_goals simp

@[simp] theorem holderPulse_keeps (c : Client) (s : State) :
    (holderPulse c s).pending = s.pending ∧ (holderPulse c s).clock = s.clock ∧
    (holderPulse c s).samples = s.samples ∧ (holderPulse c s).prog = s.prog ∧ (holderPulse c s).therm = s.therm ∧
    (holderPulse c s).dose = s.dose ∧ (holderPulse c s).dosing = s.dosing ∧ (holderPulse c s).rod = s.rod ∧
    (holderPulse c s).sup = s.sup ∧ (holderPulse c s).mon = s.mon ∧ (holderPulse c s).cal = s.cal ∧
    (holderPulse c s).store = s.store ∧ (holderPulse c s).notes = s.notes ∧ (holderPulse c s).ports = s.ports := by
  simp only [holderPulse]
  repeat' split
  all_goals simp

@[simp] theorem keptPulse_keeps (win : SettleWindow) (r : FillRecord) (s : State) :
    (keptPulse win r s).pending = s.pending ∧ (keptPulse win r s).clock = s.clock ∧
    (keptPulse win r s).samples = s.samples ∧ (keptPulse win r s).sup = s.sup ∧ (keptPulse win r s).mon = s.mon ∧
    (keptPulse win r s).cal = s.cal ∧ (keptPulse win r s).ports = s.ports := by
  simp only [keptPulse]
  repeat' split
  all_goals simp

@[simp] theorem windowPulse_keeps (win : SettleWindow) (s : State) :
    (windowPulse win s).pending = s.pending ∧ (windowPulse win s).clock = s.clock ∧
    (windowPulse win s).samples = s.samples ∧ (windowPulse win s).sup = s.sup ∧ (windowPulse win s).mon = s.mon ∧
    (windowPulse win s).cal = s.cal ∧ (windowPulse win s).ports = s.ports := by
  simp only [windowPulse]
  repeat' split
  all_goals simp

@[simp] theorem grantWaiting_keeps (s : State) :
    (grantWaiting s).pending = s.pending ∧ (grantWaiting s).clock = s.clock ∧ (grantWaiting s).samples = s.samples ∧
    (grantWaiting s).therm = s.therm ∧ (grantWaiting s).soft = s.soft ∧ (grantWaiting s).dose = s.dose ∧
    (grantWaiting s).dosing = s.dosing ∧ (grantWaiting s).rod = s.rod ∧ (grantWaiting s).sup = s.sup ∧
    (grantWaiting s).mon = s.mon ∧ (grantWaiting s).cal = s.cal ∧ (grantWaiting s).store = s.store ∧
    (grantWaiting s).notes = s.notes ∧ (grantWaiting s).ports = s.ports := by
  simp only [grantWaiting]
  repeat' split
  all_goals simp

@[simp] theorem windowFinal_keeps (win : SettleWindow) (s : State) :
    (windowFinal win s).pending = s.pending ∧ (windowFinal win s).clock = s.clock ∧
    (windowFinal win s).samples = s.samples ∧ (windowFinal win s).therm = s.therm ∧
    (windowFinal win s).soft = s.soft ∧ (windowFinal win s).dose = s.dose ∧ (windowFinal win s).dosing = s.dosing ∧
    (windowFinal win s).rod = s.rod ∧ (windowFinal win s).sup = s.sup ∧ (windowFinal win s).mon = s.mon ∧
    (windowFinal win s).cal = s.cal ∧ (windowFinal win s).store = s.store ∧ (windowFinal win s).notes = s.notes ∧
    (windowFinal win s).ports = s.ports := by
  simp only [windowFinal]
  repeat' split
  all_goals simp

@[simp] theorem washStall_keeps (s : State) :
    (washStall s).pending = s.pending ∧ (washStall s).clock = s.clock ∧ (washStall s).samples = s.samples ∧
    (washStall s).sup = s.sup ∧ (washStall s).mon = s.mon ∧ (washStall s).cal = s.cal ∧
    (washStall s).ports = s.ports := by
  simp only [washStall]
  repeat' split
  all_goals simp

@[simp] theorem brineStall_keeps (s : State) :
    (brineStall s).pending = s.pending ∧ (brineStall s).clock = s.clock ∧ (brineStall s).samples = s.samples ∧
    (brineStall s).prog = s.prog ∧ (brineStall s).therm = s.therm ∧ (brineStall s).dose = s.dose ∧
    (brineStall s).dosing = s.dosing ∧ (brineStall s).rod = s.rod ∧ (brineStall s).sup = s.sup ∧
    (brineStall s).mon = s.mon ∧ (brineStall s).cal = s.cal ∧ (brineStall s).store = s.store ∧
    (brineStall s).ports = s.ports := by
  simp only [brineStall]
  repeat' split
  all_goals simp

/-! ### ThermalEvents -/

@[simp] theorem takeRaw_keeps (raw : Nat) (s : State) :
    (takeRaw raw s).pending = s.pending ∧ (takeRaw raw s).clock = s.clock ∧ (takeRaw raw s).samples = s.samples ∧
    (takeRaw raw s).prog = s.prog ∧ (takeRaw raw s).water = s.water ∧ (takeRaw raw s).soft = s.soft ∧
    (takeRaw raw s).dose = s.dose ∧ (takeRaw raw s).dosing = s.dosing ∧ (takeRaw raw s).rod = s.rod ∧
    (takeRaw raw s).sup = s.sup ∧ (takeRaw raw s).mon = s.mon ∧ (takeRaw raw s).cal = s.cal ∧
    (takeRaw raw s).store = s.store ∧ (takeRaw raw s).notes = s.notes ∧ (takeRaw raw s).ports = s.ports := by
  simp only [takeRaw]
  repeat' split
  all_goals simp

@[simp] theorem stepHeater_keeps (heating : Bool) (target w : Nat) (s : State) :
    (stepHeater heating target w s).pending = s.pending ∧ (stepHeater heating target w s).clock = s.clock ∧
    (stepHeater heating target w s).samples = s.samples ∧ (stepHeater heating target w s).prog = s.prog ∧
    (stepHeater heating target w s).water = s.water ∧ (stepHeater heating target w s).soft = s.soft ∧
    (stepHeater heating target w s).dose = s.dose ∧ (stepHeater heating target w s).dosing = s.dosing ∧
    (stepHeater heating target w s).rod = s.rod ∧ (stepHeater heating target w s).sup = s.sup ∧
    (stepHeater heating target w s).mon = s.mon ∧ (stepHeater heating target w s).cal = s.cal ∧
    (stepHeater heating target w s).store = s.store ∧ (stepHeater heating target w s).notes = s.notes ∧
    (stepHeater heating target w s).ports = s.ports := by
  simp only [stepHeater]
  all_goals simp

@[simp] theorem heatingReading_keeps (target w : Nat) (s : State) :
    (heatingReading target w s).pending = s.pending ∧ (heatingReading target w s).clock = s.clock ∧
    (heatingReading target w s).samples = s.samples ∧ (heatingReading target w s).water = s.water ∧
    (heatingReading target w s).soft = s.soft ∧ (heatingReading target w s).dose = s.dose ∧
    (heatingReading target w s).dosing = s.dosing ∧ (heatingReading target w s).rod = s.rod ∧
    (heatingReading target w s).sup = s.sup ∧ (heatingReading target w s).mon = s.mon ∧
    (heatingReading target w s).cal = s.cal ∧ (heatingReading target w s).store = s.store ∧
    (heatingReading target w s).notes = s.notes ∧ (heatingReading target w s).ports = s.ports := by
  simp only [heatingReading]
  repeat' split
  all_goals simp

@[simp] theorem takeWorking_keeps (w : Nat) (s : State) :
    (takeWorking w s).pending = s.pending ∧ (takeWorking w s).clock = s.clock ∧
    (takeWorking w s).samples = s.samples ∧ (takeWorking w s).water = s.water ∧ (takeWorking w s).soft = s.soft ∧
    (takeWorking w s).dose = s.dose ∧ (takeWorking w s).dosing = s.dosing ∧ (takeWorking w s).rod = s.rod ∧
    (takeWorking w s).sup = s.sup ∧ (takeWorking w s).mon = s.mon ∧ (takeWorking w s).cal = s.cal ∧
    (takeWorking w s).store = s.store ∧ (takeWorking w s).notes = s.notes ∧ (takeWorking w s).ports = s.ports := by
  simp only [takeWorking]
  repeat' split
  all_goals simp

@[simp] theorem loseHeater_keeps (s : State) :
    (loseHeater s).pending = s.pending ∧ (loseHeater s).clock = s.clock ∧ (loseHeater s).samples = s.samples ∧
    (loseHeater s).water = s.water ∧ (loseHeater s).soft = s.soft ∧ (loseHeater s).dose = s.dose ∧
    (loseHeater s).dosing = s.dosing ∧ (loseHeater s).rod = s.rod ∧ (loseHeater s).sup = s.sup ∧
    (loseHeater s).mon = s.mon ∧ (loseHeater s).cal = s.cal ∧ (loseHeater s).store = s.store ∧
    (loseHeater s).notes = s.notes ∧ (loseHeater s).ports = s.ports := by
  simp only [loseHeater]
  repeat' split
  all_goals simp

@[simp] theorem missTarget_keeps (s : State) :
    (missTarget s).pending = s.pending ∧ (missTarget s).clock = s.clock ∧ (missTarget s).water = s.water ∧
    (missTarget s).soft = s.soft ∧ (missTarget s).dose = s.dose ∧ (missTarget s).dosing = s.dosing ∧
    (missTarget s).rod = s.rod ∧ (missTarget s).sup = s.sup ∧ (missTarget s).mon = s.mon ∧
    (missTarget s).cal = s.cal ∧ (missTarget s).store = s.store ∧ (missTarget s).ports = s.ports := by
  simp only [missTarget]
  repeat' split
  all_goals simp

@[simp] theorem countSlow_keeps (s : State) :
    (countSlow s).pending = s.pending ∧ (countSlow s).clock = s.clock ∧ (countSlow s).samples = s.samples ∧
    (countSlow s).prog = s.prog ∧ (countSlow s).water = s.water ∧ (countSlow s).soft = s.soft ∧
    (countSlow s).dose = s.dose ∧ (countSlow s).dosing = s.dosing ∧ (countSlow s).rod = s.rod ∧
    (countSlow s).sup = s.sup ∧ (countSlow s).mon = s.mon ∧ (countSlow s).cal = s.cal ∧
    (countSlow s).store = s.store ∧ (countSlow s).ports = s.ports := by
  simp only [countSlow]
  repeat' split
  all_goals simp

@[simp] theorem riseMiss_keeps (gain : Int) (s : State) :
    (riseMiss gain s).pending = s.pending ∧ (riseMiss gain s).clock = s.clock ∧ (riseMiss gain s).water = s.water ∧
    (riseMiss gain s).soft = s.soft ∧ (riseMiss gain s).dose = s.dose ∧ (riseMiss gain s).dosing = s.dosing ∧
    (riseMiss gain s).rod = s.rod ∧ (riseMiss gain s).sup = s.sup ∧ (riseMiss gain s).mon = s.mon ∧
    (riseMiss gain s).cal = s.cal ∧ (riseMiss gain s).store = s.store ∧ (riseMiss gain s).ports = s.ports := by
  simp only [riseMiss]
  all_goals simp

@[simp] theorem diverterArrives_keeps (p : Option (Fin 4)) (s : State) :
    (diverterArrives p s).pending = s.pending ∧ (diverterArrives p s).clock = s.clock ∧
    (diverterArrives p s).soft = s.soft ∧ (diverterArrives p s).sup = s.sup ∧ (diverterArrives p s).mon = s.mon ∧
    (diverterArrives p s).cal = s.cal ∧ (diverterArrives p s).ports = s.ports := by
  simp only [diverterArrives]
  all_goals simp

@[simp] theorem logSlip_keeps (s : State) :
    (logSlip s).pending = s.pending ∧ (logSlip s).clock = s.clock ∧ (logSlip s).samples = s.samples ∧
    (logSlip s).prog = s.prog ∧ (logSlip s).water = s.water ∧ (logSlip s).therm = s.therm ∧
    (logSlip s).soft = s.soft ∧ (logSlip s).dose = s.dose ∧ (logSlip s).dosing = s.dosing ∧ (logSlip s).rod = s.rod ∧
    (logSlip s).sup = s.sup ∧ (logSlip s).mon = s.mon ∧ (logSlip s).cal = s.cal ∧ (logSlip s).store = s.store ∧
    (logSlip s).ports = s.ports := by
  simp only [logSlip]
  repeat' split
  all_goals simp

/-! ### DosingEvents -/

@[simp] theorem strokeTimedOut_keeps (r : Reservoir) (s : State) :
    (strokeTimedOut r s).pending = s.pending ∧ (strokeTimedOut r s).clock = s.clock ∧
    (strokeTimedOut r s).samples = s.samples ∧ (strokeTimedOut r s).water = s.water ∧
    (strokeTimedOut r s).therm = s.therm ∧ (strokeTimedOut r s).soft = s.soft ∧ (strokeTimedOut r s).rod = s.rod ∧
    (strokeTimedOut r s).sup = s.sup ∧ (strokeTimedOut r s).mon = s.mon ∧ (strokeTimedOut r s).cal = s.cal ∧
    (strokeTimedOut r s).store = s.store ∧ (strokeTimedOut r s).ports = s.ports := by
  simp only [strokeTimedOut]
  repeat' split
  all_goals simp

/-! ### RodEvents -/

@[simp] theorem countStep_keeps (a b : Bool) (s : State) :
    (countStep a b s).pending = s.pending ∧ (countStep a b s).clock = s.clock ∧
    (countStep a b s).samples = s.samples ∧ (countStep a b s).prog = s.prog ∧ (countStep a b s).water = s.water ∧
    (countStep a b s).therm = s.therm ∧ (countStep a b s).soft = s.soft ∧ (countStep a b s).dose = s.dose ∧
    (countStep a b s).dosing = s.dosing ∧ (countStep a b s).sup = s.sup ∧ (countStep a b s).mon = s.mon ∧
    (countStep a b s).cal = s.cal ∧ (countStep a b s).store = s.store ∧ (countStep a b s).notes = s.notes ∧
    (countStep a b s).ports = s.ports := by
  simp only [countStep]
  all_goals simp

@[simp] theorem validStep_keeps (a b : Bool) (s : State) :
    (validStep a b s).pending = s.pending ∧ (validStep a b s).clock = s.clock ∧
    (validStep a b s).samples = s.samples ∧ (validStep a b s).water = s.water ∧ (validStep a b s).therm = s.therm ∧
    (validStep a b s).soft = s.soft ∧ (validStep a b s).dose = s.dose ∧ (validStep a b s).dosing = s.dosing ∧
    (validStep a b s).sup = s.sup ∧ (validStep a b s).mon = s.mon ∧ (validStep a b s).cal = s.cal ∧
    (validStep a b s).store = s.store ∧ (validStep a b s).ports = s.ports := by
  simp only [validStep]
  repeat' split
  all_goals simp

@[simp] theorem invalidStep_keeps (a b : Bool) (s : State) :
    (invalidStep a b s).pending = s.pending ∧ (invalidStep a b s).clock = s.clock ∧
    (invalidStep a b s).samples = s.samples ∧ (invalidStep a b s).water = s.water ∧
    (invalidStep a b s).therm = s.therm ∧ (invalidStep a b s).soft = s.soft ∧ (invalidStep a b s).dose = s.dose ∧
    (invalidStep a b s).dosing = s.dosing ∧ (invalidStep a b s).sup = s.sup ∧ (invalidStep a b s).mon = s.mon ∧
    (invalidStep a b s).cal = s.cal ∧ (invalidStep a b s).store = s.store ∧ (invalidStep a b s).ports = s.ports := by
  simp only [invalidStep]
  repeat' split
  all_goals simp

end Sys2Proof.Machine
end

