-- ==== Sys2Proof/Laws/Operations.lean ====
section
/-!
SUPPORT. What each shared operation does, said once, so that a proof cites it in place of unfolding: requests that reach
their owner, notices, faults, checkpoints, results, the image, the arbiter, the stages' begin and end, the restore.
-/

namespace Sys2Proof.Machine

/-! ### Requests (spec/11 R198, R199) -/

/-- A request that reaches its owner is answered with what the owner answers (R199). -/
theorem serve_of_reaches {p : Port} {perm : Permission} {s : State} (h : reaches p perm s)
    (owner : State → State × Reply) : serve p perm owner s = answer p (owner s).2 (owner s).1 := by
  obtain ⟨h1, h2, h3⟩ := h
  unfold holdBars at h2
  have h4 : (if perm.acting = true then wakeUp (requestCause p) s else s) = s := by
    split
    · next ha => simp [wakeUp, h3 ha]
    · rfl
  unfold serve
  rw [if_neg (by simp [h1]), if_neg h2, if_neg (by intro hh; exact h3 hh.1 hh.2.1)]
  simp only [h4]

/-- A port read back from an update of the ports. -/
@[simp] theorem Ports.get_set_same (x : Ports) (p : Port) (y : PortState) : (x.set p y).get p = y := by
  cases p <;> rfl

@[simp] theorem Ports.get_set_other (x : Ports) {p q : Port} (y : PortState) (h : q ≠ p) :
    (x.set p y).get q = x.get q := by
  cases p <;> cases q <;> first | rfl | exact absurd rfl h

@[simp] theorem Ports.set_hold (x : Ports) (p : Port) (y : PortState) : (x.set p y).hold = x.hold := by
  cases p <;> rfl

/-- An answer goes behind the answers still to be sent on its port, carries the LOST flag and clears it; nothing else
of the port and of the part changes (R198). -/
theorem answer_spec (p : Port) (r : Reply) (s : State) :
    ((answer p r s).ports.get p).answers =
        (s.ports.get p).answers ++ [⟨r.status, (s.ports.get p).lost, r.gap, r.records, r.payload⟩] ∧
      ((answer p r s).ports.get p).lost = false ∧
      ((answer p r s).ports.get p).receiver = (s.ports.get p).receiver ∧
      ((answer p r s).ports.get p).buffer = (s.ports.get p).buffer ∧
      (∀ q, q ≠ p → (answer p r s).ports.get q = s.ports.get q) ∧ (answer p r s).ports.hold = s.ports.hold ∧
      { answer p r s with ports := s.ports } = s := by
  simp only [answer, onPort, State.onPorts, Ports.get_set_same, Ports.set_hold, true_and, and_true]
  intro q hq
  exact Ports.get_set_other _ _ hq

/-! ### Notices and faults (spec/10 R186 to R193) -/

theorem NoticeKind.bit_inj {k l : NoticeKind} (h : k.bit = l.bit) : k = l := by
  cases k <;> cases l <;> first | rfl | exact absurd h (by decide)

/-- Raising adds 1 to the kind's count, held to 15, and leaves every other count (R186). -/
@[simp] theorem NoticeSet.count_raise (n : NoticeSet) (k l : NoticeKind) :
    (n.raise k).count l = if l = k then min 15 (n.count l + 1) else n.count l := by
  simp only [NoticeSet.count, NoticeSet.raise]
  split
  · next h => subst h; simp
  · next h =>
    have : k.bit.val ≠ l.bit.val := fun e => h (NoticeKind.bit_inj (Fin.ext e)).symm
    simpa using Vector.getElem_set_ne _ _ this

@[simp] theorem NoticeSet.mask_raise (n : NoticeSet) (k : NoticeKind) : (n.raise k).mask = n.mask := rfl

/-- A kind raised on every port. -/
@[simp] theorem raiseAll_count (k l : NoticeKind) (s : State) (p : Port) :
    ((raiseAll k s).notes.get p).count l =
      if l = k then min 15 ((s.notes.get p).count l + 1) else (s.notes.get p).count l := by
  cases p <;> simp [raiseAll, State.onNotes, Notes.get]

/-- Raising touches the three sets alone. -/
theorem raiseAll_leaves (k : NoticeKind) (s : State) :
    (raiseAll k s).notes.conditions = s.notes.conditions ∧ (raiseAll k s).notes.log = s.notes.log ∧
      (raiseAll k s).notes.standing = s.notes.standing ∧ (raiseAll k s).notes.ring = s.notes.ring ∧
      (raiseAll k s).notes.next = s.notes.next ∧ { raiseAll k s with notes := s.notes } = s :=
  ⟨rfl, rfl, rfl, rfl, rfl, rfl⟩

/-- A kind raised on one port leaves the other ports' sets. -/
@[simp] theorem raiseOn_count (p q : Port) (k l : NoticeKind) (s : State) :
    ((raiseOn p k s).notes.get q).count l =
      if q = p ∧ l = k then min 15 ((s.notes.get q).count l + 1) else (s.notes.get q).count l := by
  cases p <;> cases q <;> simp [raiseOn, State.onNotes, Notes.get, Notes.set]

/-- A logged fault is appended with the running phase's tag, the detail and the operating minute, the oldest of four
leaving, and raises FAULT on every port and nothing else (R191, R192). -/
theorem logFault_spec (code : FaultCode) (source : FaultSource) (detail : Option Int) (s : State) :
    (logFault code source detail s).notes.log.getLast? = some ⟨code, source, runningTag s, detail, s.store.minutes⟩ ∧
      (s.notes.log.length < 3 → (logFault code source detail s).notes.log =
        s.notes.log ++ [⟨code, source, runningTag s, detail, s.store.minutes⟩]) ∧
      (s.notes.log.length = 3 → (logFault code source detail s).notes.log =
        s.notes.log.tail ++ [⟨code, source, runningTag s, detail, s.store.minutes⟩]) ∧
      (∀ p k, ((logFault code source detail s).notes.get p).count k =
        if k = .fault then min 15 ((s.notes.get p).count k + 1) else (s.notes.get p).count k) ∧
      (logFault code source detail s).notes.standing = s.notes.standing ∧
      { logFault code source detail s with notes := s.notes } = s := by
  have hlog : ∀ x : List FaultRecord, ∀ r, (appendLog x r).getLast? = some r := by
    intro x r
    simp only [appendLog]
    rw [List.getLast?_drop, if_neg (by simp only [List.length_append, List.length_singleton]; omega)]
    exact List.getLast?_concat
  refine ⟨hlog _ _, ?_, ?_, ?_, rfl, rfl⟩
  · intro h
    have : (s.notes.log.length + 1) - 3 = 0 := by omega
    simp [logFault, raiseAll, State.onNotes, appendLog, this]
  · intro h
    have : (s.notes.log.length + 1) - 3 = 1 := by omega
    simp [logFault, raiseAll, State.onNotes, appendLog, this]
    rw [List.tail_append_of_ne_nil]
    intro e; simp [e] at h
  · intro p k
    cases p <;> simp [logFault, Notes.get, State.onNotes, raiseAll]

/-- A port's attention line is asserted exactly while its set holds a kind of its mask (R189). -/
theorem attention_iff (s : State) (p : Port) : attention s p = true ↔
    ∃ k : NoticeKind, (s.notes.get p).count k ≠ 0 ∧ (s.notes.get p).mask.getLsbD k.bit.val = true := by
  have hsurj : ∀ i : Fin 18, ∃ k : NoticeKind, k.bit = i := by
    intro i
    have h : ∀ i : Fin 18, i ∈ [NoticeKind.phaseDone, .programEnd, .startRefused, .noWater, .resEmptyD, .resEmptyR,
        .regenDone, .fault, .woke, .settingChanged, .powerReturn, .storeLost, .leak, .overfill, .inhibit, .saltEmpty,
        .resLowD, .resLowR].map NoticeKind.bit := by decide
    obtain ⟨k, -, hk⟩ := List.mem_map.1 (h i)
    exact ⟨k, hk⟩
  simp only [attention, List.any_eq_true, Bool.and_eq_true, decide_eq_true_eq, NoticeSet.count]
  constructor
  · rintro ⟨i, -, h⟩
    obtain ⟨k, rfl⟩ := hsurj i
    exact ⟨k, h⟩
  · rintro ⟨k, h⟩
    exact ⟨k.bit, by simp, h⟩

/-! ### Checkpoints (spec/09 R173, R178 to R180) -/

/-- A trigger begins a write of the image as it stands, or sets AGAIN. -/
theorem trigger_idle (s : State) (hw : s.store.writing = none) (hp : powerFailing s = false) :
    trigger s = beginWrite (freshWaiting s) s := by
  simp [trigger, hw, hp]

theorem trigger_again (s : State) (h : s.store.writing ≠ none ∨ powerFailing s = true) :
    trigger s = s.onStore (fun t => { t with again := true }) := by
  have : (s.store.writing.isSome || powerFailing s) = true := by
    rcases h with h | h
    · simp [Option.isSome_iff_ne_none.2 h]
    · simp [h]
  simp [trigger, this]

/-- The image takes every item of Table 9-1 as it stands; with FRESH_RESIN, C equal to Cfull and the brine-charged flag
clear (R173, R178, R184). -/
theorem formImage_spec (s : State) (fresh : Bool) :
    (formImage fresh s).c = (if fresh then s.cal.cfull else s.soft.c) ∧
      (formImage fresh s).charged = (!fresh && s.soft.charged) ∧
      (formImage fresh s).sequence + 1 = s.notes.next ∧ (formImage fresh s).settings = s.cal ∧
      ((formImage fresh s).programMark = true ↔
        s.prog.state = .running ∨ s.prog.state = .cancelling ∨ s.prog.state = .faulted) := by
  refine ⟨rfl, ?_, ?_, rfl, ?_⟩
  · cases fresh <;> rfl
  · simp [formImage, BitVec.sub_add_cancel]
  · simp only [formImage, programMark]
    cases s.prog.state <;> simp

/-! ### Stages and their work (spec/01 R4, R21, R22, spec/03 R59, R66) -/

/-- A running phase is the phase the program holds, with the head of its queue, in RUNNING (R4). -/
theorem runningPhase_parts {s : State} {r : PhaseRecord} {ph : RunningPhase} (h : runningPhase s = some (r, ph)) :
    s.prog.state = .running ∧ s.prog.phase = some ph ∧ ∃ rest, s.prog.queue = r :: rest := by
  revert h
  simp only [runningPhase]
  split <;> simp_all

/-- While the phase is suspended, or no end is reported, no stage transition is taken (R21, R22). -/
theorem runStages_of_suspended (n : Nat) (s : State) (h : suspended s = true) : runStages n s = s := by
  cases n <;> simp only [runStages]
  split <;> simp [h]

theorem runStages_of_open (n : Nat) (s : State) (r : PhaseRecord) (ph : RunningPhase)
    (h : runningPhase s = some (r, ph)) (he : ph.stageEnd = none) : runStages n s = s := by
  cases n <;> simp [runStages, h, he]

/-- A met wash fill that is ended changes the water intake alone (R36). -/
theorem endMetWash_leaves (s : State) : { endMetWash s with water := s.water } = s := by
  simp only [endMetWash, endHolderFill, releaseHolder, endWashRecord, endSoftCounter, State.onWater]
  repeat' split
  all_goals rfl

/-- A reported end is kept, the first report standing; nothing else changes (R21). -/
theorem reportEnd_spec (e : StageEnd) (s : State) :
    (reportEnd e s).prog.phase =
        s.prog.phase.map (fun ph => if ph.stageEnd.isSome then ph else { ph with stageEnd := some e }) ∧
      { reportEnd e s with prog := s.prog } = s ∧ { (reportEnd e s).prog with phase := s.prog.phase } = s.prog :=
  ⟨rfl, rfl, rfl⟩

/-- The ALTERNATE timer after a pulse or at the start of circulation: 30 s in the wanted set of an ALTERNATE phase, none
otherwise; nothing else changes (R66). -/
theorem startAlternate_spec (s : State) :
    (s.therm.wanted = none → startAlternate s = s) ∧
      (∀ z, s.therm.wanted = some z → startAlternate s = { s with therm := { s.therm with
        alternate := if alternating s && inWantedSet z s.therm.position then some 30000 else none } }) := by
  refine ⟨fun h => by simp [startAlternate, h], fun z h => ?_⟩
  simp [startAlternate, h, State.onTherm, alternateMs]

/-- HOLDING entered with a hold time loads its timer, keeps "heated", and forms a regulator for a heated stage alone
(R19, R59). -/
theorem enterHolding_spec (r : PhaseRecord) (s : State) (ph : RunningPhase) (h : s.prog.phase = some ph)
    (ht : r.holdTime ≠ 0) :
    enterHolding r s = { s with
      prog := { s.prog with phase := some { ph with stage := .holding, stageEnd := none } }
      therm := { s.therm with
        regulator := if ph.heated then r.heatTarget.map (fun target => formRegulator false target s.therm.working)
                     else none
        rise := none, hold := some (r.holdTime * 1000) } } := by
  cases hh : ph.heated <;> cases hr : r.heatTarget <;>
    simp [enterHolding, h, ht, hh, hr, enterStage, onPhase, State.onProg, State.onTherm, placeHolding]

/-! ### `finish` with no phase running (spec/01 R21, spec/08 R156) -/

/-- With no phase running no end of a stage is acted on (R21). -/
@[simp] theorem runStages_of_no_phase (n : Nat) (s : State) (h : runningPhase s = none) : runStages n s = s := by
  cases n <;> simp [runStages, h]

theorem followOutputs_leaves (s : State) :
    (followOutputs s).notes = s.notes ∧ (followOutputs s).store = s.store ∧ (followOutputs s).dose = s.dose ∧
      (followOutputs s).prog = { s.prog with tankWet := (followOutputs s).prog.tankWet } ∧
      (followOutputs s).water = { s.water with
        stall := (followOutputs s).water.stall, inletOpen := (followOutputs s).water.inletOpen } ∧
      (followOutputs s).rod.count = s.rod.count ∧ (followOutputs s).rod.referenced = s.rod.referenced := by
  have hm : ∀ u : State, (zeroMotionStall u).notes = u.notes ∧ (zeroMotionStall u).store = u.store ∧
      (zeroMotionStall u).dose = u.dose ∧ (zeroMotionStall u).prog = u.prog ∧ (zeroMotionStall u).water = u.water ∧
      (zeroMotionStall u).rod.count = u.rod.count ∧ (zeroMotionStall u).rod.referenced = u.rod.referenced := by
    intro u; simp only [zeroMotionStall]
    all_goals simp [onMotion, State.onRod]
  have hp : ∀ u : State, (pauseMotion u).notes = u.notes ∧ (pauseMotion u).store = u.store ∧
      (pauseMotion u).dose = u.dose ∧ (pauseMotion u).prog = u.prog ∧ (pauseMotion u).water = u.water ∧
      (pauseMotion u).rod.count = u.rod.count ∧ (pauseMotion u).rod.referenced = u.rod.referenced := by
    intro u; simp only [pauseMotion]; repeat' split
    all_goals simp [onMotion, State.onRod]
  simp only [followOutputs]
  split
  · split <;> simp [State.onProg, hm, hp]
  · simp [State.onWater, hm, hp]

/-- What the outputs' final states do to the drain job and, with no phase running, to the tank-wet flag (R13, R68). -/
theorem followOutputs_leaves_tank (s : State) :
    (followOutputs s).therm.drain = s.therm.drain ∧
      (runningPhase s = none → s.sup.overrides.inlet = false → (followOutputs s).prog.tankWet = s.prog.tankWet) := by
  have e : ∀ u : State, (zeroDivStall u).therm.drain = u.therm.drain := by
    intro u; simp only [zeroDivStall]; split <;> rfl
  constructor
  · simp only [followOutputs]; repeat' split
    all_goals simp [State.onWater, State.onProg, e]
  · intro h ho
    simp only [followOutputs]
    split
    · split
      · rename_i h1 h2
        exfalso
        generalize hu : zeroDivStall (zeroMotionStall (pauseMotion (stopRunOuts s))) = u at h1 h2
        have hs : u.sup = s.sup := by subst hu; simp
        have hp : u.prog = s.prog := by subst hu; simp
        have hr : runningPhase u = none := by simpa [runningPhase, hp] using h
        simp [inletOpens, hs, ho] at h2
        simp [inletFinal, hs, ho, inletDemand, h2.2, wetRunning, hr] at h1
      · simp [State.onWater]
    · simp [State.onWater]

/-- With no phase running only the DOOR qualification timer and the outputs are brought into line (R21, R24). -/
theorem finish_of_no_phase (s : State) (h : runningPhase s = none) :
    ∃ q, runningPhase (s.onProg (fun p => { p with doorQual := q })) = none ∧
      finish s = followOutputs (s.onProg (fun p => { p with doorQual := q })) := by
  have h2 : ∀ q, runningPhase (s.onProg (fun p => { p with doorQual := q })) = none := by
    intro q; simpa [runningPhase, State.onProg] using h
  have h3 : ∀ q, wetRunning (s.onProg (fun p => { p with doorQual := q })) = false := by
    intro q; simp [wetRunning, h2]
  have h1 : ∃ q, watchDoor s = s.onProg (fun p => { p with doorQual := q }) := by
    simp only [watchDoor, h3]
    split
    · exact ⟨s.prog.doorQual, rfl⟩
    · exact ⟨0, rfl⟩
  obtain ⟨q, h1⟩ := h1
  refine ⟨q, h2 q, ?_⟩
  simp only [finish, h1, runStages_of_no_phase _ _ (h2 q), placeDemands, h2 q]
  congr 1
  simp only [endMetWash, h3]; split <;> simp

theorem finish_leaves (s : State) (h : runningPhase s = none) :
    (finish s).notes = s.notes ∧ (finish s).store = s.store ∧ (finish s).dose = s.dose ∧
      (finish s).prog.queue = s.prog.queue ∧ (finish s).prog.state = s.prog.state ∧ (finish s).prog.arm = s.prog.arm ∧
      (finish s).prog.phase = s.prog.phase ∧ (finish s).prog.holds = s.prog.holds ∧
      (finish s).water.record = s.water.record ∧ (finish s).water.holder = s.water.holder ∧
      (finish s).rod.count = s.rod.count ∧ (finish s).rod.referenced = s.rod.referenced := by
  obtain ⟨q, -, e⟩ := finish_of_no_phase s h
  obtain ⟨a, b, c, d, e', f, g⟩ := followOutputs_leaves (s.onProg (fun p => { p with doorQual := q }))
  rw [e, a, b, c, d, e', f, g]
  simp [State.onProg]

/-- With no phase running and no inlet override no event's end wets the tank, and the drain job stands (R13, R68). -/
theorem finish_leaves_tank (s : State) (h : runningPhase s = none) :
    (finish s).therm.drain = s.therm.drain ∧
      (s.sup.overrides.inlet = false → (finish s).prog.tankWet = s.prog.tankWet) := by
  obtain ⟨q, hq, e⟩ := finish_of_no_phase s h
  rw [e]
  exact ⟨(followOutputs_leaves_tank _).1, fun ho => (followOutputs_leaves_tank _).2 hq ho⟩

/-! ### Units -/

/-- A plan and the carry are turned into whole strokes with nothing lost: strokes times the stroke volume plus the
carry out is the plan plus the carry in, and the carry out is less than a stroke (R107). -/
theorem strokesOf_spec :
  ∀ plan carry vs : Nat, 0 < vs →
    (strokesOf plan carry vs).1 * vs + (strokesOf plan carry vs).2 = plan + carry ∧
      (strokesOf plan carry vs).2 < vs ∧ (strokesOf plan carry vs).1 = (plan + carry) / vs := by
  intro plan carry vs h
  simp only [strokesOf]
  have h1 := Nat.div_add_mod (plan + carry) vs
  have h2 := Nat.mod_lt (plan + carry) h
  have h3 : (plan + carry) / vs * vs = vs * ((plan + carry) / vs) := Nat.mul_comm _ _
  refine ⟨?_, ?_, trivial⟩ <;> omega

/-- A soil reading's class (R101, R102): the first threshold above it decides; 0 and 1023 set and log SOIL_SENSOR and
give class 1. -/
theorem soilReading_spec :
  ∀ (r : Turbidity) (s : State),
    (r ≠ 0 → r ≠ 1023 → (soilReading r s).2 = s ∧
        (r.toNat < s.cal.t1 → (soilReading r s).1 = 0) ∧
        (s.cal.t1 ≤ r.toNat → r.toNat < s.cal.t2 → (soilReading r s).1 = 1) ∧
        (s.cal.t1 ≤ r.toNat → s.cal.t2 ≤ r.toNat → r.toNat < s.cal.t3 → (soilReading r s).1 = 2) ∧
        (s.cal.t1 ≤ r.toNat → s.cal.t2 ≤ r.toNat → s.cal.t3 ≤ r.toNat → (soilReading r s).1 = 3)) ∧
      (r = 0 ∨ r = 1023 → (soilReading r s).1 = 1 ∧
        (soilReading r s).2 = logFault .soilSensor .doseComputer (some (r.toNat : Int))
          { s with notes := { s.notes with standing := { s.notes.standing with soilSensor := true } } }) := by
  intro r s
  have h0 : r = 0 ↔ r.toNat = 0 := by
    rw [← BitVec.toNat_inj]; simp
  have h1 : r = 1023 ↔ r.toNat = 1023 := by
    rw [← BitVec.toNat_inj]; simp
  rw [Ne, Ne, h0, h1]
  constructor
  · intro a b
    have hc : ¬ (r.toNat = 0 ∨ r.toNat = 1023) := by omega
    simp only [soilReading, hc, if_false, classify, true_and]
    refine ⟨?_, ?_, ?_, ?_⟩ <;> intros <;> simp_all
    all_goals (repeat' split) <;> first | rfl | omega
  · intro h
    simp [soilReading, h, onStanding, State.onNotes]

/-- A client that asks finds a grantable inlet and becomes holder at once; otherwise it waits, WASH_FILL under INLET;
a client that is already there changes nothing. A new softener counter starts at 0 with q latched (R34, R37, R26). -/
theorem inlet_spec :
  ∀ s : State,
    (s.water.holder = some .wash ∨ s.water.waitWash = true → askWash s = s) ∧
      (s.water.holder ≠ some .wash → s.water.waitWash = false → grantable s = true →
        askWash s = { s with water := { s.water with holder := some .wash, stall := 0 } }) ∧
      (s.water.holder ≠ some .wash → s.water.waitWash = false → grantable s = false →
        (askWash s).water = { s.water with waitWash := true } ∧
        ((runningPhase s).isSome = true → (askWash s).prog.holds = { s.prog.holds with inlet := true })) ∧
      (∀ target, grantable s = true →
        askSoft .brine target s = { s with water :=
          { s.water with softCounter := some ⟨target, s.cal.flowQ, 0, 0, none⟩, holder := some .brine, stall := 0 } } ∧
        askSoft .rinse target s = { s with water :=
          { s.water with softCounter := some ⟨target, s.cal.flowQ, 0, 0, none⟩, holder := some .rinse, stall := 0 } }) ∧
      (∀ c target, grantable s = false →
        askSoft c target s = { s with water :=
          { s.water with softCounter := some ⟨target, s.cal.flowQ, 0, 0, none⟩, waitSoft := some c } }) := by
  intro s
  refine ⟨?_, ?_, ?_, ?_, ?_⟩
  · intro h; simp [askWash, h]
  · intro h1 h2 h3; simp [askWash, h1, h2, h3, grant, State.onWater]
  · intro h1 h2 h3
    have h4 : ∀ u : State, runningPhase (u.onWater fun w => { w with waitWash := true }) = runningPhase u := fun _ => rfl
    constructor
    · simp only [askWash, h1, h2, h3, onHolds]
      simp only [Bool.false_eq_true, or_self, if_false]
      split <;> simp [State.onProg, State.onWater]
    · intro h5
      have h6 : ¬ (s.water.holder = some .wash ∨ s.water.waitWash = true) := by simp [h1, h2]
      simp only [askWash, h6, h3, onHolds, h4, h5]
      rfl
  · intro target h
    have hg : ∀ u : State, ∀ c, grantable (u.onWater fun w => { w with softCounter := c }) = grantable u := fun _ _ => rfl
    simp only [askSoft, hg, h]
    exact ⟨rfl, rfl⟩
  · intro c target h
    have hg : ∀ u : State, ∀ c, grantable (u.onWater fun w => { w with softCounter := c }) = grantable u := fun _ _ => rfl
    simp only [askSoft, hg, h]
    rfl

/-- While the inlet valve's override is on no expiry grants a client (R49). -/
@[simp] theorem grantWaiting_overridden {s : State} (h : s.sup.overrides.inlet = true) : grantWaiting s = s := by
  simp [grantWaiting, h]

/-- A window for FLUSH is open in WAIT_WINDOW alone, with neither leak nor inhibit, in NORMAL (R85, R90, R91, R93). -/
theorem flushWindow_open {s : State} {k : WindowKind} (h : flushWindow s = some k) :
    s.soft.state = .waitWindow ∧ leakPresent s = false ∧ inhibited s = false ∧ s.sup.mode = .normal := by
  revert h
  simp only [flushWindow]
  split <;> simp_all

/-- The report of a final softener fill (R83, R88): a brine fill ended TARGET loads the dissolve timer, one ended
OVERFILL returns to PENDING; every final rinse leads to the restore. A report that finds the softener in another
state has no effect. -/
theorem softFinal_spec :
  ∀ (c : SoftCounter) (s : State), s.water.softCounter = none →
    (s.soft.state = .brineFill → c.ending = some .target →
        softFinal .brine (some c) s = { s with soft :=
          { s.soft with state := .dissolve, dissolve := some (s.cal.dissolveTime * 1000) } }) ∧
      (s.soft.state = .brineFill → c.ending = some .overfill →
        softFinal .brine (some c) s = { s with soft := { s.soft with state := .pending } }) ∧
      (s.soft.state = .resinRinse → softFinal .rinse (some c) s = restore s) ∧
      (s.soft.state ≠ .brineFill → softFinal .brine (some c) s = s) ∧
      (s.soft.state ≠ .resinRinse → softFinal .rinse (some c) s = s) := by
  intro c s h
  refine ⟨?_, ?_, ?_, ?_, ?_⟩
  · intro h1 h2; simp [softFinal, h, h1, h2, State.onSoft]
  · intro h1 h2; simp [softFinal, h, h1, h2, State.onSoft]
  · intro h1; simp [softFinal, h, h1]
  · intro h1
    cases h2 : s.soft.state <;> simp_all [softFinal]
  · intro h1
    cases h2 : s.soft.state <;> simp_all [softFinal]

/-- A completed drain reports to its owner: a PHASE job ends DRAINING; a CANCEL job moves CANCELLING to IDLE and
clears the tank-wet flag, with no PROGRAM_END (R68, spec/01 R13, R14). -/
theorem completeDrain_spec :
  ∀ (s : State) (j : DrainJob), s.therm.drain = some j →
    (completeDrain s).therm = { s.therm with drain := none } ∧ (completeDrain s).notes = s.notes ∧
      (j.kind = .cancel → s.prog.state = .cancelling →
        (completeDrain s).prog = { s.prog with state := .idle, tankWet := false }) ∧
      (∀ r ph, j.kind = .phase → runningPhase s = some (r, ph) → ph.stage = .draining → ph.stageEnd = none →
        (completeDrain s).prog = { s.prog with phase := some { ph with stageEnd := some .finished } }) := by
  intro s j hj
  refine ⟨?_, ?_, ?_, ?_⟩
  · simp only [completeDrain, hj]
    repeat' split
    all_goals rfl
  · simp only [completeDrain, hj]
    repeat' split
    all_goals rfl
  · intro hk hp; simp [completeDrain, hj, hk, hp, State.onTherm, State.onProg]
  · intro r ph hk hr hst he
    have h1 : stageOpen (s.onTherm fun t => { t with drain := none }) .draining = true := by
      have : runningPhase (s.onTherm fun t => { t with drain := none }) = some (r, ph) := hr
      simp [stageOpen, this, hst, he]
    have h2 : s.prog.phase = some ph := by
      simp only [runningPhase] at hr
      split at hr <;> simp_all
    simp only [completeDrain, hj, hk, h1, if_true]
    simp [reportEnd, onPhase, State.onProg, State.onTherm, h2, he]

/-- Ending a run-out touches the run-out of its reservoir alone (R121). -/
theorem endRunOut_spec (r : Reservoir) (s : State) :
    (endRunOut r s).dosing.get r = { s.dosing.get r with runOut := none } ∧
      (∀ q, q ≠ r → (endRunOut r s).dosing.get q = s.dosing.get q) ∧
      (endRunOut r s).dosing.stroke = s.dosing.stroke ∧ { endRunOut r s with dosing := s.dosing } = s := by
  cases r
  · exact ⟨rfl, fun q h => by cases q <;> first | rfl | exact absurd rfl h, rfl, rfl⟩
  · exact ⟨rfl, fun q h => by cases q <;> first | rfl | exact absurd rfl h, rfl, rfl⟩

/-- A run-out leads when it runs and no stroke in flight of its reservoir stands higher (R118, R121). -/
theorem runOutLeads_iff (r : Reservoir) (s : State) : runOutLeads r s = true ↔
    ∃ t, (s.dosing.get r).runOut = some t ∧ (strokeInFlight s r = true → ∀ x, s.dosing.stroke = some x → x ≤ t) := by
  cases h : (s.dosing.get r).runOut with
  | none => simp [runOutLeads, h]
  | some t =>
    cases hf : strokeInFlight s r with
    | false => simp [runOutLeads, h, hf]
    | true =>
      cases hx : s.dosing.stroke with
      | none => simp [strokeInFlight, hx] at hf
      | some x => simp [runOutLeads, h, hf, hx]

/-- The stroke check of Table 6-2 in DOSING (R115, R116): a standing pump fault, or a known account below the plan's
stroke volume, ends the stage with every uncounted stroke as shortfall, the latter with RES_EMPTY on every port;
otherwise the stroke begins. -/
theorem nextStroke_spec :
  ∀ (s : State) (pl : DosePlan), s.dose.plan = some pl → stageOpen s .dosing = true → s.dosing.stroke = none →
    suspended s = false → pl.delivered + pl.shortfall + pl.withdrawn < pl.planned →
    (pumpFault s pl.reservoir = true → nextStroke s = reportEnd .finished (allShortfall s)) ∧
      (pumpFault s pl.reservoir = false → (s.dosing.get pl.reservoir).known = true →
        (s.dosing.get pl.reservoir).account < pl.stroke →
        nextStroke s = reportEnd .finished (raiseAll
          (match pl.reservoir with | .detergent => .resEmptyD | .rinseAid => .resEmptyR) (allShortfall s))) ∧
      (pumpFault s pl.reservoir = false → (s.dosing.get pl.reservoir).known = false ∨
          pl.stroke ≤ (s.dosing.get pl.reservoir).account →
        nextStroke s = { s with dosing := { s.dosing with stroke := some 0 } }) ∧
      (allShortfall s).dose.plan =
        some { pl with shortfall := pl.shortfall + (pl.planned - (pl.delivered + pl.shortfall + pl.withdrawn)) } := by
  intro s pl hp ho hs hu hc
  have h0 : pl.uncounted ≠ 0 := by simp only [DosePlan.uncounted, DosePlan.counted]; omega
  refine ⟨?_, ?_, ?_, ?_⟩
  · intro h; simp [nextStroke, hp, ho, hs, hu, h0, h]
  · intro h h1 h2
    simp only [nextStroke, hp, ho, hs, hu, h0, h, h1, h2]
    cases pl.reservoir <;> simp [resEmpty]
  · intro h h1
    have : ¬ ((s.dosing.get pl.reservoir).known = true ∧ (s.dosing.get pl.reservoir).account < pl.stroke) := by
      rintro ⟨a, b⟩
      rcases h1 with h1 | h1
      · simp [a] at h1
      · omega
    simp [nextStroke, hp, ho, hs, hu, h0, h, this, State.onDosing]
  · simp [allShortfall, onPlan, State.onDose, hp, DosePlan.uncounted, DosePlan.counted]

/-- The heater regulator (R55, Table 3-1, in half degrees): off at or above the target; in HEATING on below target -
1.0 °C, in HOLDING on below target - 2.0 °C; between the limits as it was. -/
theorem stepRegulator_spec :
  ∀ (heating : Bool) (target t : Nat) (on : Bool),
    (target ≤ t → stepRegulator heating target t on = false) ∧
      ((t : Int) < (target : Int) - (if heating then 2 else 4) → stepRegulator heating target t on = true) ∧
      (t < target → (target : Int) - (if heating then 2 else 4) ≤ (t : Int) →
        stepRegulator heating target t on = on) ∧
      (formRegulator true target (some t) = true ↔ t < target) ∧
      (formRegulator false target (some t) = true ↔ (t : Int) < (target : Int) - 4) ∧
      formRegulator heating target none = false := by
  intro heating target t on
  refine ⟨?_, ?_, ?_, ?_, ?_, rfl⟩
  · intro h; simp [stepRegulator, h]
  · intro h
    cases heating <;> simp only [stepRegulator] <;> simp at h ⊢ <;> omega
  · intro h h1
    have h2 : ¬ target ≤ t := by omega
    cases heating <;> simp only [stepRegulator, h2] <;> simp at h1 ⊢ <;> intros <;> omega
  · simp [formRegulator]
  · simp only [formRegulator]; simp; omega

/-- What the softener is after it has left FLUSH and RESIN_RINSE (R86, R88). -/
@[simp] theorem afterRegen_soft (aborted : Bool) (s : State) :
    (afterRegen aborted s).soft = { s.soft with
      window := .none, flush := none
      tail := if s.soft.window = .standAlone then
          (if aborted = false ∧ s.prog.state ≠ .running then some tailMs else none)
        else s.soft.tail } := by
  simp only [afterRegen]
  repeat' split
  all_goals simp_all [State.onSoft]

/-- The restore (R89): C rises by f percent of Cfull, held to Cfull; the regeneration count rises, held to 65,535;
REGEN_DONE is raised on every port; the state is IDLE, or PENDING again when C is still below T; a checkpoint with
the new C is triggered. -/
theorem restore_spec :
  ∀ s : State,
    (restore s).soft.c = min s.cal.cfull (s.soft.c + s.cal.cfull * s.soft.factor / 100) ∧
      (restore s).soft.regenCount = min 65535 (s.soft.regenCount + 1) ∧
      (restore s).soft.state =
        (if min s.cal.cfull (s.soft.c + s.cal.cfull * s.soft.factor / 100) < s.cal.cfull * s.cal.thr / 100
         then .pending else .idle) ∧
      (restore s).soft.window = .none ∧
      (∀ p k, ((restore s).notes.get p).count k =
        if k = .regenDone then min 15 ((s.notes.get p).count k + 1) else (s.notes.get p).count k) ∧
      (s.store.writing = none → powerFailing s = false → freshWaiting s = false →
        ∃ img, (restore s).store.writing = some img ∧
          img.c = min s.cal.cfull (s.soft.c + s.cal.cfull * s.soft.factor / 100)) ∧
      (s.store.writing ≠ none → (restore s).store.again = true) := by
  intro s
  have hc : ∀ u : State, (checkThreshold u).notes = u.notes ∧ (checkThreshold u).store = u.store ∧
      (checkThreshold u).soft = { u.soft with
        state := if u.soft.state = .idle ∧ u.soft.c < thresholdT u then .pending else u.soft.state } := by
    intro u; simp only [checkThreshold]
    split <;> simp [State.onSoft, *]
  refine ⟨?_, ?_, ?_, ?_, ?_, ?_, ?_⟩
  · simp [restore, hc, State.onSoft, restoredC]
  · simp [restore, hc, State.onSoft]
  · simp [restore, hc, State.onSoft, restoredC, thresholdT]
  · simp [restore]
  · intro p k
    have : ∀ u : State, (trigger u).notes = u.notes := by
      intro u; simp
    simp only [restore, afterRegen_keeps, hc, State.onSoft, this]
    exact raiseAll_count .regenDone k (State.mk _ _ _ _ _ _ _ _ _ _ _ _ _ _ _ _) p
  · intro h1 h2 h3
    simp only [restore, afterRegen_keeps, hc]
    simp only [State.onSoft]
    rw [trigger_idle]
    · refine ⟨_, rfl, ?_⟩
      simp only [freshWaiting] at h3
      simp [formImage, freshWaiting, raiseAll, State.onNotes, h3, restoredC]
    · exact h1
    · exact h2
  · intro h1
    simp only [restore, afterRegen_keeps, hc]
    simp only [State.onSoft]
    rw [trigger_again]
    · rfl
    · exact .inl h1

/-- When the running phase ends, its result takes the next number, its record leaves the head of the queue, its hold
set is emptied, its dose plan and DRY flags are discarded, PHASE_DONE is raised on every port for DONE alone, and
a checkpoint is triggered before any of it is discarded (R5, R28, R194). -/
theorem endPhase_spec :
  ∀ (s : State) (e : PhaseEnding) (ph : RunningPhase) (r : PhaseRecord) (rest : List PhaseRecord),
    s.prog.phase = some ph → s.prog.queue = r :: rest →
    (endPhase e s).prog.queue = rest ∧ (endPhase e s).prog.phase = none ∧
      (endPhase e s).prog.holds = HoldSet.empty ∧ (endPhase e s).prog.state = s.prog.state ∧
      (endPhase e s).prog.tankWet = s.prog.tankWet ∧ (endPhase e s).dose.plan = none ∧
      (endPhase e s).dose.carryD = s.dose.carryD ∧ (endPhase e s).dosing.stroke = none ∧
      (endPhase e s).rod.count = s.rod.count ∧ (endPhase e s).notes.next = s.notes.next + 1 ∧
      (∃ x, (endPhase e s).notes.ring.getLast? = some x ∧ x.sequence = s.notes.next ∧ x.tag = r.tag ∧
        x.kind = r.kind ∧ x.ending = e ∧ x.peak = ph.peak ∧ x.duration = ph.age / 1000) ∧
      (∀ p k, ((endPhase e s).notes.get p).count k =
        if e = .done ∧ k = .phaseDone then min 15 ((s.notes.get p).count k + 1) else (s.notes.get p).count k) ∧
      (s.store.writing = none → powerFailing s = false →
        ∃ img, (endPhase e s).store.writing = some img ∧ img.sequence = s.notes.next) ∧
      (s.store.writing ≠ none → (endPhase e s).store.again = true) := by
  intro s e ph r rest h1 h2
  have hstep : endPhase e s =
      let a := placeResult (runningResult e r ph s) s
      let b := trigger (if e = .done then raiseAll .phaseDone a else a)
      { b with
        prog := { b.prog with queue := rest, phase := none, holds := HoldSet.empty, retry := none, doorQual := 0 }
        therm := { b.therm with regulator := none, rise := none, hold := none, wanted := none, alternate := none }
        dose := { b.dose with plan := none }
        dosing := { b.dosing with stroke := none }
        rod := { b.rod with dryWait := none, airing := none, closedDrying := false, openingBlocked := false
                            closedEarly := false, positionMiss := false } } := by
    simp only [endPhase, h1, h2]
    rfl
  rw [hstep]
  refine ⟨rfl, rfl, rfl, by dsimp only; split <;> simp, by dsimp only; split <;> simp, rfl, ?_, rfl, ?_, ?_, ?_, ?_, ?_, ?_⟩
  · dsimp only; split <;> simp
  · dsimp only; split <;> simp
  · dsimp only; split <;> simp [raiseAll, placeResult, State.onNotes]
  · refine ⟨{ runningResult e r ph s with sequence := s.notes.next }, ?_, rfl, rfl, rfl, rfl, rfl, rfl⟩
    have hl : ∀ (x : List ResultRecord) (y : ResultRecord), ((x ++ [y]).drop (x.length - 15)).getLast? = some y := by
      intro x y
      rw [List.getLast?_drop, if_neg (by simp only [List.length_append, List.length_singleton]; omega)]
      exact List.getLast?_concat
    dsimp only; split <;> simp [raiseAll, placeResult, State.onNotes, hl]
  · intro p k
    have hp : ∀ q, ((placeResult (runningResult e r ph s) s).notes.get q) = s.notes.get q := by
      intro q; cases q <;> rfl
    have ht : ∀ u : State, (trigger u).notes = u.notes := by intro u; simp
    by_cases he : e = .done
    · simp only [he, if_true, ht, raiseAll_count]
      subst he
      simp [hp]
    · simp [he, hp]
  · intro hw hf
    dsimp only
    rw [trigger_idle]
    · refine ⟨_, rfl, ?_⟩
      simp only [formImage]
      split <;> simp [raiseAll, placeResult, State.onNotes, BitVec.add_sub_cancel]
    · split <;> simpa using hw
    · split <;> exact hf
  · intro hw
    dsimp only
    rw [trigger_again]
    · rfl
    · left; split <;> simpa using hw

/-- A move that begins latches its slot (R136, R139): it goes straight to SETTLING within the stop lead or where
outward is not allowed, and otherwise drives toward the target; the motion in progress is withdrawn first. Only
the rod's state changes. -/
theorem beginMove_spec :
  ∀ (client : MotionClient) (n : Nat) (outward : Bool) (s : State) (h : n < 8),
    ∃ m, (beginMove client n outward s).rod.motion = some m ∧ m.client = client ∧ m.paused = false ∧ m.stalls = 0 ∧
      m.invalids = 0 ∧
      m.kind = .move n (s.cal.slots[n]).target (s.cal.slots[n]).slowLead (s.cal.slots[n]).stopLead ∧
      (m.direction = .outward ↔ s.rod.count < ((s.cal.slots[n]).target : Int)) ∧
      ((s.rod.count - ((s.cal.slots[n]).target : Int)).natAbs ≤ (s.cal.slots[n]).stopLead → m.drive = .settling) ∧
      (outward = false → s.rod.count < ((s.cal.slots[n]).target : Int) → m.drive = .settling) ∧
      ((s.cal.slots[n]).stopLead < (s.rod.count - ((s.cal.slots[n]).target : Int)).natAbs →
        (outward = true ∨ ((s.cal.slots[n]).target : Int) ≤ s.rod.count) → m.drive = driveAt m s.rod.count) ∧
      (∀ x, s.rod.motion = some x → (beginMove client n outward s).rod.last = some (.withdrawn, x.client)) ∧
      (beginMove client n outward s).rod.count = s.rod.count ∧
      { beginMove client n outward s with rod := s.rod } = s := by
  intro client n outward s h
  have hs : slotAt s.cal n = s.cal.slots[n] := by simp [slotAt, h]
  obtain ⟨u, hu, h1, h2, h3⟩ : ∃ u, u = withdrawMotion s ∧ u.cal = s.cal ∧ u.rod.count = s.rod.count ∧
      { u with rod := s.rod } = s := by
    refine ⟨_, rfl, ?_⟩
    simp only [withdrawMotion]
    split <;> simp [State.onRod]
  simp only [beginMove, ← hu, h1, h2, hs]
  refine ⟨_, rfl, rfl, rfl, rfl, rfl, rfl, ?_, ?_, ?_, ?_, ?_, ?_, ?_⟩
  · split <;> simp_all
  · intro h4; simp [h4]
  · intro h4 h5; simp [h4, h5]
  · intro h4 h5
    have h6 : ¬ (s.rod.count - ((s.cal.slots[n]).target : Int)).natAbs ≤ (s.cal.slots[n]).stopLead := by omega
    simp only [h6, if_false]
    rw [if_neg]
    · rfl
    · rintro ⟨h7, h8⟩
      rcases h5 with h5 | h5
      · simp [h5] at h8
      · have : ¬ s.rod.count < ((s.cal.slots[n]).target : Int) := by omega
        simp [this] at h7
  · intro x hx; subst hu; simp [withdrawMotion, hx, State.onRod]
  · exact h2
  · exact h3

end Sys2Proof.Machine
end

