-- ==== Sys2Proof/Tests/Slice0.lean ====
section
/-!
SUPPORT. Tests: the smoke test of WellFormed, single commands against worked examples and tables of spec/, and for every
statement with hypotheses a concrete state and operands that meet them, clause by clause.
-/

namespace Sys2Proof.Tests

open Sys2Proof.Machine

set_option maxRecDepth 20000

/-! ### States to start from: State.reset with a few fields set -/

/-- An input read asserted, and one read not asserted. -/
def on : Switch := ⟨true, true, true, 0⟩
def off : Switch := ⟨false, false, true, 0⟩

def preRecord : PhaseRecord :=
  ⟨1, .pre, some 4000, some 100, 60, some .both, some 2, false, false, true, false, none, none⟩

def mainRecord : PhaseRecord :=
  ⟨2, .main, some 5000, some 110, 600, some .alternate, some 3, true, false, false, false, none, none⟩

def dryRecord : PhaseRecord :=
  ⟨3, .dry, none, none, 60, none, none, false, false, false, false, some 2, some 120⟩

/-- Door closed, rod home, water at the level switch. -/
def shut : State :=
  { State.reset with mon := { State.reset.mon with door := on, home := on, level := on } }

/-- A program state over a queue. -/
def withProgram (st : ProgState) (q : List PhaseRecord) : State :=
  { shut with prog := { shut.prog with state := st, queue := q } }

def ready : State := withProgram .ready [preRecord]

/-- A running phase in a stage. -/
def running (r : PhaseRecord) (st : Stage) : State :=
  { shut with prog := { shut.prog with
      state := .running, queue := [r], phase := some ⟨st, none, 0, 40, false, false, false, none⟩ } }

def quiet (s : State) : State := { s with sup := { s.sup with mode := .quiet } }

def leaking (s : State) : State :=
  { s with mon := { s.mon with leak := on }, sup := { s.sup with leak := .active },
           notes := { s.notes with conditions := { s.notes.conditions with leak := true } } }

/-- SERVICE under the hold with the line present. -/
def service : State :=
  { shut with sup := { shut.sup with mode := .service }, ports := { shut.ports with hold := true },
              mon := { shut.mon with servicePresent := on } }

/-- The door open. -/
def opened (s : State) : State := { s with mon := { s.mon with door := off } }

/-- A standing inlet leak. -/
def standingLeak (s : State) : State :=
  { s with notes := { s.notes with standing := { s.notes.standing with inletLeak := true } } }

/-- The next state of an outcome, if it is one. -/
def nextOf (o : Host.Outcome State Fault Refusal) : Option State :=
  match o with
  | .next s => some s
  | .fault _ | .refused _ => none

def withWater (f : Water → Water) (s : State) : State := { s with water := f s.water }

def onProgram (f : Program → Program) (s : State) : State := { s with prog := f s.prog }

/-! ### WellFormed -/

/-- The check refuses a silent update that names an always delivered change (R154), for each such input. -/
theorem test_wellFormed_refuses :
    ([.overfill, .leak, .salt, .lowD, .lowR, .inhibit, .capD, .capR].all fun i =>
      !(Instr.debouncedStateSilentUpdate i true).wellFormed) = true := by decide

theorem test_wellFormed_accepts :
    (Instr.debouncedStateSilentUpdate .leak false).wellFormed = true ∧
      (Instr.debouncedStateSilentUpdate .door true).wellFormed = true ∧ Instr.powerOn.wellFormed = true := by decide

/-- No row of the table gives bits, so no word spells a command (log 4). -/
theorem test_no_word : decodeTableWord 16 0x1234 = none := by decide

/-! ### Reaching the owner -/

theorem witness_reaches :
    (∀ p, reaches p .all shut) ∧ reaches .panel .panelService ready ∧ reaches .link .linkOnly ready ∧
      reaches .service .serviceOnly shut ∧ reaches .service .serviceOnly service ∧
      reaches .service .panelService service ∧ reaches .panel .read (quiet service) := by
  unfold reaches holdBars
  refine ⟨fun p => ?_, ?_, ?_, ?_, ?_, ?_, ?_⟩
  · cases p <;> decide
  all_goals decide

/-! ### The queue of commands and the client ports -/

theorem witness_IdleStep : shut.pending = [] ∧ due { shut with soft := { shut.soft with state := .idle } } = none := by
  decide

theorem witness_BarredRequests :
    (requestOf (.armRemote .link) = some (.link, .panelService) ∧ Permission.panelService.allows .link = false) ∧
      (requestOf (.pause .panel) = some (.panel, .panelService) ∧ Permission.panelService.allows .panel = true ∧
        Permission.panelService.acting = true ∧ service.ports.hold = true ∧ Port.panel ≠ Port.service) ∧
      (requestOf (.cancel .link) = some (.link, .all) ∧ Permission.all.allows .link = true ∧
        Permission.all.acting = true ∧ (quiet shut).ports.hold = false ∧ (quiet shut).sup.mode = .quiet ∧
        (quiet shut).sup.wake.link = false) := by decide

/-- A page beyond the last and a part beyond the first; no phase and a running one; DELAYED; a temperature and none. -/
theorem witness_ReadRequests :
    9 < (10 : Byte).toNat ∧ ¬ 9 < (9 : Byte).toNat ∧ (1 : Byte) ≠ 0 ∧ 2 < (3 : Byte).toNat ∧
      runningPhase shut = none ∧ (runningPhase (running mainRecord .heating)).isSome = true ∧
      shut.prog.state ≠ .delayed ∧
      (let s := { ready with prog := { ready.prog with state := .delayed, delay := some 1 } }
       s.prog.state = .delayed ∧ s.prog.delay = some 1) ∧
      shut.therm.working = none ∧ ({ shut.therm with working := some 51 }).working = some 51 := by decide

/-- A delay of 1 ms left is shown as 1 minute, in bytes 7 and 8 of READ STATUS page 0 (Table 11-5, spec/01 R8). -/
theorem test_status_delay :
    (nextOf (exec (.readStatus .panel 0 0)
      { ready with prog := { ready.prog with state := .delayed, delay := some 1 } })).map (fun t =>
        t.ports.panel.answers.map (fun a => (a.payload.take 2, (a.payload.drop 7).take 2))) =
          some [([2, 1], [1, 0])] := by decide

theorem witness_QuietRequest :
    requestOf (.cancel .panel) = some (.panel, .all) ∧ Permission.all.allows .panel = true ∧
      Permission.all.acting = true ∧ (quiet ready).ports.hold = false ∧ (quiet ready).sup.mode = .quiet ∧
      Port.panel ≠ Port.link := by decide

def resultRecord (n : Word32) : ResultRecord :=
  ⟨n, 1, .pre, .done, none, none, none, none, 40, ⟨false, false, false, false, false, false⟩, 10⟩

/-- Two records, 7 and 8, the next being 9. -/
def twoResults : State :=
  { shut with notes := { shut.notes with ring := [resultRecord 7, resultRecord 8], next := 9 } }

/-- The distances at the ends of each case of R196: 1 below the number held, 2 and 2,147,483,647 above the newest, and
2,147,483,648 and the one before 7 below the oldest; and an empty ring. -/
theorem witness_ReadResults :
    consecutive twoResults.notes.ring twoResults.notes.next ∧ twoResults.notes.ring.length ≤ 16 ∧
      ((8 : Word32) - 7).toNat < 2 ∧ 2 ≤ ((9 : Word32) - 7).toNat ∧ ((9 : Word32) - 7).toNat < 2147483648 ∧
      ((2147483654 : Word32) - 7).toNat < 2147483648 ∧ 2147483648 ≤ ((2147483655 : Word32) - 7).toNat ∧
      2147483648 ≤ ((6 : Word32) - 7).toNat ∧ consecutive shut.notes.ring shut.notes.next ∧ shut.notes.ring = [] := by
  unfold consecutive
  decide

/-- A number older than the ring answers the two oldest records with GAP (R196). -/
theorem test_results_gap :
    selectResults twoResults.notes.ring 6 = ([resultRecord 7, resultRecord 8], true) ∧
      selectResults twoResults.notes.ring 8 = ([resultRecord 8], false) ∧
      selectResults twoResults.notes.ring 9 = ([], false) := by decide

/-- A port of that receiver state. -/
def receiving (r : Receiver) (buffer : Option (List Byte)) (answers : List Answer) : State :=
  { shut with ports := { shut.ports with panel := ⟨r, buffer, false, answers⟩ } }

def anAnswer : Answer := ⟨.ok, false, false, 0, []⟩

theorem witness_Receiver :
    (shut.ports.get .panel).receiver = .hunt ∧ ((receiving .length none []).ports.get .panel).receiver = .length ∧
      ((receiving (.body 1 []) none []).ports.get .panel).receiver = .body 1 [] ∧
      ((receiving (.check 1 [0x17]) none []).ports.get .panel).receiver = .check 1 [0x17] ∧
      (0x00 : Byte) ≠ -([0x17].foldl (· + ·) (BitVec.ofNat 8 1)) := by decide

/-- The check byte of the one-byte CANCEL frame is E8H (R197): 01H + 17H + E8H = 0. -/
theorem witness_Frames :
    (0xE8 : Byte) = -([0x17].foldl (· + ·) (BitVec.ofNat 8 1)) ∧
      ((receiving (.check 1 [0x17]) (some [0x05]) [anAnswer]).ports.get .panel).buffer ≠ none ∧
      ((receiving (.check 1 [0x17]) none [anAnswer]).ports.get .panel).answers ≠ [] ∧
      ((receiving (.check 1 [0x17]) none []).ports.get .panel).answers = [] ∧
      ((receiving .hunt none [anAnswer, anAnswer]).ports.get .panel).answers = anAnswer :: [anAnswer] ∧
      ((receiving .hunt (some [0x05]) [anAnswer]).ports.get .panel).answers = [anAnswer] := by decide

theorem test_cancel_frame :
    nextOf (exec (.byteReceived .panel 0xE8 true) (receiving (.check 1 [0x17]) none [])) =
      nextOf (exec (.cancel .panel) (receiving .hunt none [])) := by decide

/-- The answers of R199's table, byte for byte: OK, HELD, and a refusal with NOTARMED. -/
theorem test_answer_bytes :
    sending (receiving .hunt none [anAnswer]) .panel = some [0xC3, 0x02, 0x00, 0x00, 0xFE] ∧
      frameOf (Answer.body ⟨.held, false, false, 0, []⟩) = [0xC3, 0x02, 0x04, 0x00, 0xFA] ∧
      Answer.body ⟨.refused .notArmed, true, true, 2, []⟩ = [0x02, 0x0B, 0x07] := by decide

/-- A body of 1 to 48 bytes on an idle port; a short and a long START; the codes below, between and above the table's;
a QUEUE PHASE payload of 3 bytes, and one whose presence byte asks for two bytes that are not there. -/
theorem witness_FrameSpells :
    ((0x11, 2) ∈ payloadLengths ∧ [(0x05 : Byte)].length ≠ 2 ∧ [(0x05 : Byte), 0, 0].length ≠ 2) ∧
      ([0x00, 0x07, 0x18, 0x1F, 0x54, 0xFF].all fun code =>
        decide (code ≠ (0x10 : Byte) ∧ code ∉ payloadLengths.map (·.1))) = true ∧
      [(1 : Byte), 0, 0].length < 4 ∧
      ([] : List Byte).length ≠ (if (1 : Byte).getLsbD 0 then 2 else 0) ∧
      (1 ≤ (List.replicate 48 (0 : Byte)).length ∧ (List.replicate 48 (0 : Byte)).length ≤ 48 ∧
        (shut.ports.get .panel).receiver = .hunt ∧ (shut.ports.get .panel).buffer = none ∧
        (shut.ports.get .panel).answers = []) := by decide

/-! ### The wash program -/

/-- A PRE phase of 4000 mL at 50.0 °C for 60 s, zones both, level 2. -/
def preFields : PhaseFields :=
  ⟨1, 0, some 4000, some 100, some 60, some 0, some 2, none, none, false, false, true, false⟩

/-- The fields of `preFields` on the line, byte for byte (Table 11-6). -/
theorem test_phase_payload :
    phasePayload preFields = [0x01, 0x00, 0x1F, 0x04, 0xA0, 0x0F, 0x64, 0x3C, 0x00, 0x00, 0x02] := by decide

theorem witness_ValidRecords :
    checkRecord preFields = some (preRecord, false) ∧
      checkRecord { preFields with heatTarget := some 145, holdTime := some 3601 } =
        some ({ preRecord with heatTarget := some 144, holdTime := 3600 }, true) ∧
      checkRecord { preFields with fillVolume := some 999 } = none ∧
      checkRecord { preFields with fillVolume := some 1000 } = some ({ preRecord with fillVolume := some 1000 }, false) ∧
      checkRecord ⟨3, 4, none, none, some 60, none, none, some 2, some 7201, false, false, false, false⟩ =
        some ({ dryRecord with airing := some 7200 }, true) := by decide

theorem witness_valid : validPhase preFields ∧ ¬ validPhase { preFields with fillVolume := some 8001 } := by
  constructor
  · simp [validPhase, validFlags, validWet, preFields]
  · simp [validPhase, validFlags, validWet, preFields]

theorem witness_QueuePhase :
    (withProgram .cancelling []).prog.state = .cancelling ∧ (withProgram .faulted []).prog.state = .faulted ∧
      8 ≤ (withProgram .ready (List.replicate 8 preRecord)).prog.queue.length ∧
      (((withProgram .ready [dryRecord]).prog.queue.getLast?).map (·.kind) = some .dry ∧
        (withProgram .ready [dryRecord]).prog.queue.length < 8) ∧
      ((ready.prog.queue.getLast?).map (·.kind) ≠ some .dry ∧ ready.prog.queue.length < 8) := by decide

/-- READY, NORMAL, the door closed, no leak and no fault; and each refusal's own condition. -/
theorem witness_Start :
    (ready.prog.state = .ready ∧ ready.sup.mode = .normal ∧ doorClosed ready = true ∧ leakPresent ready = false ∧
        ready.notes.standing.inletLeak = false ∧ ready.notes.standing.rodStuck = false ∧ (1441 : Half) ≠ 0) ∧
      shut.prog.state ≠ .ready ∧ (onProgram (fun p => { p with state := .ready }) service).sup.mode ≠ .normal ∧
      doorClosed (opened ready) = false ∧ leakPresent (leaking ready) = true ∧
      ((standingLeak ready).prog.state = .ready ∧ doorClosed (standingLeak ready) = true ∧
        (standingLeak ready).notes.standing.inletLeak = true) := by decide

def armed (s : State) : State := onProgram (fun p => { p with arm := true }) s

def filling : State := running preRecord .filling

def pausedForWater : State :=
  onProgram (fun p => { p with holds := { p.holds with water := true }, retry := some 60000 }) filling

theorem witness_ArmPauseResume :
    (shut.prog.state ≠ .ready ∧ shut.prog.state ≠ .delayed ∧ shut.prog.state ≠ .running) ∧
      (ready.prog.state = .ready ∧ doorClosed ready = true ∧ doorClosed (opened ready) = false) ∧
      (filling.prog.state = .running ∧ filling.prog.phase ≠ none ∧ filling.prog.queue ≠ [] ∧
        filling.prog.holds.water = false) ∧
      (pausedForWater.prog.state = .running ∧ pausedForWater.prog.holds.water = true) := by decide

/-- READY for a DRY phase. -/
def readyDry : State := withProgram .ready [dryRecord]

/-- READY while the softener's client holds the inlet. -/
def readyBehind : State :=
  withWater (fun w => { w with holder := some .brine, softCounter := some ⟨300, 250, 0, 0, none⟩ }) ready

theorem witness_RemoteStart :
    shut.prog.state ≠ .ready ∧ shut.prog.state ≠ .delayed ∧ ready.prog.arm = false ∧
      (leakPresent (leaking (armed ready)) = true ∧ (leaking (armed ready)).prog.arm = true) ∧
      (standingLeak (armed ready)).notes.standing.inletLeak = true ∧
      (armed ready).prog.state = .ready ∧ (armed ready).prog.arm = true ∧ (armed ready).sup.mode = .normal ∧
      leakPresent (armed ready) = false ∧ (armed ready).notes.standing.inletLeak = false ∧
      (armed ready).notes.standing.rodStuck = false ∧
      (armed (onProgram (fun p => { p with state := .ready }) service)).sup.mode ≠ .normal := by decide

/-- The head a wet record with the inlet free and with it held, and a DRY record; the rod unreferenced at rest with the
home switch open, and referenced. -/
theorem witness_EnterRunning :
    (ready.prog.queue = preRecord :: [] ∧ preRecord.kind.wet = true ∧ ready.water.holder ≠ some .wash ∧
        ready.water.waitWash = false ∧ grantable ready = true) ∧
      (readyBehind.water.holder ≠ some .wash ∧ grantable readyBehind = false) ∧
      (readyDry.prog.queue = dryRecord :: [] ∧ dryRecord.kind.wet = false ∧ doorClosed readyDry = true ∧
        doorClosed (opened readyDry) = false) ∧
      (let s := { ready with mon := { ready.mon with home := off } }
       s.rod.referenced = false ∧ s.rod.motion = none ∧ s.mon.home.state = false) ∧
      ({ ready.rod with referenced := true }).referenced = true := by decide

/-- A REMOTE START behind a brine fill begins its phase in FILLING under INLET, the open door adding DOOR (R19, R22,
R26). -/
theorem test_remote_start_holds :
    (nextOf (exec (.remoteStart .link) (opened (armed readyBehind)))).map (fun t =>
      (t.prog.state, runningStage t, t.prog.holds, t.prog.arm)) =
        some (.running, some .filling, ⟨false, true, false, true, false, false⟩, false) := by decide

theorem witness_Cancel :
    shut.prog.state = .idle ∧ ready.prog.state = .ready ∧ (withProgram .faulted []).prog.state = .faulted ∧
      filling.prog.state = .running ∧ filling.prog.phase ≠ none ∧ filling.prog.queue ≠ [] := by decide

def delayed : State := onProgram (fun p => { p with state := .delayed, delay := some 0 }) ready

def doorHeld : State := onProgram (fun p => { p with holds := { p.holds with door := true } }) filling

theorem witness_ProgramTimers :
    (delayed.prog.state = .delayed ∧ delayed.prog.delay ≠ none ∧ delayed.sup.mode = .normal ∧
        doorClosed delayed = true ∧ leakPresent delayed = false ∧ delayed.notes.standing.inletLeak = false ∧
        delayed.notes.standing.rodStuck = false) ∧
      ((opened delayed).prog.state = .delayed ∧ (opened delayed).sup.mode = .normal ∧
        doorClosed (opened delayed) = false) ∧
      ((quiet delayed).sup.mode = .quiet ∧ (quiet delayed).sup.wake.delay = true) ∧
      ((runningPhase doorHeld).isSome = true ∧ doorHeld.prog.holds.door = true ∧ doorClosed doorHeld = true ∧
        rodHome doorHeld = true) ∧
      pausedForWater.prog.retry ≠ none := by decide

/-- DELAYED with the door open: the expiry returns to READY with START_REFUSED (R8). -/
theorem test_delay_refused :
    (nextOf (exec .startDelayExpiry (opened delayed))).map (fun t =>
      (t.prog.state, t.prog.delay, (t.notes.get .panel).count .startRefused)) = some (.ready, none, 1) := by decide

/-- START with a delay of 2000 min is held to 1440 min and answered CLAMPED (R7, R199). -/
theorem test_start_clamped :
    (nextOf (exec (.start .panel 2000) ready)).map (fun t =>
      (t.prog.state, t.prog.delay, t.ports.panel.answers.map (·.status))) =
        some (.delayed, some 86400000, [.clamped]) := by decide

/-! ### Water intake -/

/-- A wash fill record of 4000 mL at q = 250, all softened. -/
def washFill (p v : Nat) (e : Option FillEnding) : FillRecord := ⟨.wash, some 4000, 250, p, v, v, 0, e, false⟩

/-- A wash fill in progress: 2000 mL of 4000 mL softened at q = 250 (800 pulses). -/
def washing : State :=
  withWater (fun w => { w with holder := some .wash, record := some (washFill 800 2000 none) }) filling

def waiting (wash : Bool) (soft : Option SoftClient) : State :=
  withWater (fun w => { w with waitWash := wash, waitSoft := soft }) shut

def inWindow : State :=
  withWater (fun w => { w with
    window := some ⟨.wash, 2000, none, none⟩, record := some (washFill 1600 4000 (some .target)) }) filling

def inletOverridden : State :=
  { service with sup := { service.sup with overrides := { service.sup.overrides with inlet := true } } }

def serviceFilling (p : Nat) : State :=
  withWater (fun w => { w with record := some ⟨.service, none, 250, p, fillVolume none 250 p, 0, 0, none, false⟩ })
    inletOverridden

theorem witness_FlowPulses :
    inletOverridden.sup.overrides.inlet = true ∧
      (washing.sup.overrides.inlet = false ∧ washing.water.holder = some .wash) ∧
      (inWindow.water.holder = none ∧ inWindow.water.window = some ⟨.wash, 2000, none, none⟩) ∧
      (shut.water.holder = none ∧ shut.water.window = none ∧ shut.prog.state ≠ .running) ∧
      leakFound (arrivalsAfter (List.replicate 19 0) 60000) 60000 = true ∧
      leakFound (arrivalsAfter (List.replicate 19 0) 60001) 60001 = false ∧
      (standingLeak shut).notes.standing.inletLeak = true := by decide

/-- The records of each clause: a service fill below 65,535 pulses and at 65,535, a wash fill with its demand on short of
its target and at it, and with its demand off. -/
theorem witness_PulsesOfRecords :
    ((serviceFilling 65534).water.record.map (·.p)) = some 65534 ∧
      ((serviceFilling 65535).water.record.map (·.p)) = some 65535 ∧
      (inletDemand washing = true ∧ (pulseRecord (washFill 800 2000 none) washing).1.v < 4000 ∧
        4000 ≤ (pulseRecord (washFill 1599 3997 none) washing).1.v ∧
        inletDemand (withWater (fun w => { w with record := some (washFill 1599 3997 none) }) washing) = true) ∧
      inletDemand (onProgram (fun p => { p with holds := { p.holds with request := true } }) washing) = false := by
  decide

/-- The softener's client holds the inlet for its brine or rinse water, `p` pulses counted. -/
def softCounting (c : Client) (st : RegenState) (p : Nat) : State :=
  withWater (fun w => { w with holder := some c, softCounter := some ⟨300, 250, p, fillVolume (some 300) 250 p, none⟩ })
    { shut with soft := { shut.soft with state := st } }

/-- A softener fill of that ending in its settle window, the restore factor 100 percent: its counter has left the holder's
place with it. -/
def softWindow (o : WindowOwner) (st : RegenState) (e : FillEnding) : State :=
  withWater (fun w => { w with window := some ⟨o, 0, some ⟨300, 250, 120, 300, some e⟩, none⟩ })
    { shut with soft := { shut.soft with state := st, factor := 100 } }

/-- Softener fills short of the target of 300 mL and at it (120 pulses of 2.5 mL), and the windows of each kind, with no
counter in the holder's place. -/
theorem witness_SoftPulses :
    (inletDemand (softCounting .brine .brineFill 118) = true ∧ fillVolume (some 300) 250 119 < 300) ∧
      (inletDemand (softCounting .rinse .resinRinse 119) = true ∧ 300 ≤ fillVolume (some 300) 250 120) ∧
      (SettleWindow.mk .wash 2000 none (some (washFill 65534 4800 none))).kept ≠ none ∧
      ((washFill 65534 4800 none).p < 65535 ∧ 65535 ≤ (washFill 65535 4800 none).p) ∧
      ((SettleWindow.mk .service 2000 none none).kept = none ∧
        (softWindow .brine .brineFill .target).water.softCounter = none ∧
        (softWindow .brine .brineFill .target).water.window.bind (·.counter) = some ⟨300, 250, 120, 300, some .target⟩ ∧
        (softWindow .rinse .resinRinse .target).water.window.map (fun w => (w.kept, w.owner)) = some (none, .rinse)) := by
  decide

/-- The twentieth unattributed pulse within 60 s faults a RUNNING program (R47). -/
theorem test_inlet_leak :
    (nextOf (exec .flowPulse (withWater (fun w => { w with arrivals := List.replicate 19 0 })
      (running mainRecord .heating)))).map (fun t =>
        (t.prog.state, t.notes.standing.inletLeak, t.notes.log.getLast?.map (·.detail))) =
          some (.faulted, true, some (some 1)) := by decide

def serviceRouted : State :=
  { service with sup := { service.sup with overrides := { service.sup.overrides with route := true } } }

theorem witness_PulseIsSplit :
    FillRecord.exact ⟨.wash, some 4000, 250, 800, 2000, 2000, 0, none, false⟩ ∧
      FillRecord.exact ⟨.service, none, 250, 65535, 163837, 0, 163837, none, false⟩ ∧
      routeFinal serviceRouted = true ∧ routeFinal shut = false := by
  unfold FillRecord.exact
  decide

/-- 1600 pulses of 2.5 mL reach 4000 mL: the fill ends TARGET and its window starts (R32, R36); with C at 0 the last
3 mL pass hard (R33, R78). -/
theorem test_fill_ends_target :
    (nextOf (exec .flowPulse (withWater (fun w => { w with record := some (washFill 1599 3997 none) }) washing))).map
      (fun t => (t.water.holder, t.water.record, t.water.window.map (·.left))) =
        some (none, some ⟨.wash, some 4000, 250, 1600, 4000, 3997, 3, some .target, false⟩, some 2000) := by decide

theorem witness_SettleWindows :
    shut.water.window = none ∧ inWindow.water.window = some ⟨.wash, 2000, none, none⟩ ∧
      (waiting true (some .rinse)).water.waitWash = true ∧
      ((runningPhase (withWater (fun w => { w with waitWash := true }) filling)).isSome = true) ∧
      ((waiting false (some .brine)).water.waitWash = false ∧
        (waiting false (some .brine)).water.waitSoft = some .brine) ∧
      (waiting false (some .rinse)).water.waitSoft = some .rinse ∧
      ((waiting false none).water.waitWash = false ∧ (waiting false none).water.waitSoft = none) ∧
      inWindow.water.record = some (washFill 1600 4000 (some .target)) ∧
      (shut.sup.overrides.inlet = false ∧ inletOverridden.sup.overrides.inlet = true) := by decide

/-- Final softener fills: brine water ended TARGET and OVERFILL, rinse water; a write in flight and none. -/
theorem witness_SoftFinals :
    ((softWindow .brine .brineFill .target).water.softCounter = none ∧
        (softWindow .brine .brineFill .target).soft.state = .brineFill) ∧
      (softWindow .brine .brineFill .overfill).water.window.map (fun w => (w.owner, w.counter.bind (·.ending))) =
        some (.brine, some .overfill) ∧
      ((softWindow .rinse .resinRinse .target).soft.state = .resinRinse ∧
        runningPhase (softWindow .rinse .resinRinse .target) = none ∧
        (softWindow .rinse .resinRinse .target).store.writing ≠ none ∧
        powerFailing (softWindow .rinse .resinRinse .target) = false ∧
        freshWaiting (softWindow .rinse .resinRinse .target) = false) := by decide

/-- A final rinse restores C by the factor's part of Cfull, counts it and raises REGEN_DONE (spec/04 R89); with the inlet
override on the expiry grants a waiting fill nothing (R49). -/
theorem test_expiry_restores_and_grants_nothing :
    (nextOf (exec .settleWindowExpiry (softWindow .rinse .resinRinse .target))).map (fun t =>
      (t.soft.state, t.soft.c, t.soft.regenCount, (t.notes.get .panel).count .regenDone)) =
        some (.idle, Settings.defaults.cfull, 1, 1) ∧
      (nextOf (exec .settleWindowExpiry (withWater (fun w => { w with
        waitSoft := some .rinse, window := some ⟨.brine, 0, none, none⟩ }) inletOverridden))).map (fun t =>
          (t.water.holder, t.water.waitSoft)) = some (none, some .rinse) := by decide

/-- At the window's expiry a waiting wash fill is granted and INLET goes (R38). -/
theorem test_grant_removes_inlet :
    (nextOf (exec .settleWindowExpiry (withWater (fun w =>
        { w with waitWash := true, window := some ⟨.brine, 0, none, none⟩, record := some (washFill 0 0 none) })
      (onProgram (fun p => { p with holds := { p.holds with inlet := true } }) filling)))).map (fun t =>
        (t.water.holder, t.water.waitWash, t.prog.holds.inlet, inletFinal t)) =
          some (some .wash, false, false, true) := by decide

def softHolding (c : Client) (st : RegenState) : State := softCounting c st 0

theorem witness_FillStalls :
    shut.water.holder = none ∧ (washing.water.holder = some .wash ∧ inletFinal washing = true ∧
        washing.prog.stallCount < 2 ∧ (runningPhase washing).isSome = true) ∧
      2 ≤ (onProgram (fun p => { p with stallCount := 2 }) washing).prog.stallCount ∧
      washing.prog.state = .running ∧
      ((softHolding .brine .brineFill).water.holder = some .brine ∧
        inletFinal (softHolding .brine .brineFill) = true) ∧
      ((softHolding .rinse .resinRinse).water.holder = some .rinse ∧
        inletFinal (softHolding .rinse .resinRinse) = true) := by decide

/-- The third stall of a fill faults the program with NO_WATER (R25, R43). -/
theorem test_third_stall :
    (nextOf (exec .fillStall (onProgram (fun p => { p with stallCount := 2 }) washing))).map (fun t =>
      (t.prog.state, t.notes.log.getLast?.map (·.code), (t.notes.get .link).count .noWater)) =
        some (.faulted, some .noWater, 1) := by decide

/-- A brine stall logs its volume, sets the retry block and returns to PENDING (R43, spec/04 R83). -/
theorem test_brine_stall :
    (nextOf (exec .fillStall (softCounting .brine .brineFill 4))).map (fun t =>
      (t.soft.state, t.soft.retryBlock, t.notes.log.getLast?.map (fun x => (x.code, x.detail)))) =
        some (.pending, true, some (.brineStall, some 10)) := by decide

/-! ### Temperature, heating, diverter, drain -/

def withThermal (f : Thermal → Thermal) (s : State) : State := { s with therm := f s.therm }

/-- Heating with a rise window referenced at 25.0 °C; the working temperature as given, in half degrees. -/
def heating (w slow : Nat) : State :=
  withThermal (fun t => { t with working := some w, rise := some ⟨600000, 50⟩, slowCount := slow })
    (running preRecord .heating)

def holding : State := withThermal (fun t => { t with hold := some 0 }) (running preRecord .holding)

theorem witness_HeatingEnds :
    shut.therm.outTimer = none ∧ (withThermal (fun t => { t with outTimer := some 5000 }) shut).therm.outTimer ≠ none ∧
      (runningStage shut ≠ some .heating ∧ runningStage shut ≠ some .holding) ∧
      ((runningPhase (heating 51 0)).map (·.2.stage) = some .heating ∧
        (runningPhase holding).map (·.2.stage) = some .holding) ∧
      ((heating 52 0).therm.rise = some ⟨600000, 50⟩ ∧ (heating 52 0).therm.working = some 52 ∧
        (runningPhase (heating 52 0)).map (·.2.stageEnd) = some none ∧ suspended (heating 52 0) = false ∧
        50 + 2 ≤ (52 : Nat)) ∧
      ((heating 51 1).therm.working = some 51 ∧ (51 : Nat) < 50 + 2 ∧ 1 ≤ (heating 51 1).therm.slowCount ∧
        (heating 51 1).notes.standing.heater = false) ∧
      ((heating 51 0).therm.slowCount = 0 ∧ preRecord.holdTime ≠ 0) := by decide

/-- The second miss of a program sets HEATER (R58). -/
theorem test_second_miss :
    (nextOf (exec .riseCheckExpiry (heating 51 1))).map (fun t =>
      (t.therm.slowCount, t.notes.standing.heater, t.notes.log.map (·.code))) =
        some (2, true, [.storeLost, .heatSlow, .heater]) := by decide

/-- SENSOR_TEMP ends HEATING with "heat skipped" (R53). -/
theorem test_sensor_temp :
    (nextOf (exec .sensorTemp (withThermal (fun t => { t with outTimer := some 0, raw := some 3 }) (heating 51 0)))).map
      (fun t => (runningStage t, t.notes.standing.sensorTemp, t.therm.regulator.isSome,
        t.notes.log.getLast?.map (·.code))) = some (some .holding, true, false, some .sensorTemp) := by decide

/-- 75.0 °C latches, 70.0 °C releases, 98.5 °C is out of range (R52, R60). -/
theorem test_readings :
    (nextOf (exec (.temperatureReading 150) shut)).map (fun t => (t.therm.latch, t.therm.working)) =
        some (true, some 150) ∧
      (nextOf (exec (.temperatureReading 140) (withThermal (fun t => { t with latch := true }) shut))).map
        (fun t => t.therm.latch) = some false ∧
      (nextOf (exec (.temperatureReading 197) shut)).map (fun t => (t.therm.working, t.therm.outTimer)) =
        some (none, some 0) := by decide

/-- That state with the heater's regulator ON and the phase suspended or not. -/
def regulated (held : Bool) (s : State) : State :=
  withThermal (fun t => { t with regulator := some true })
    (onProgram (fun p => { p with holds := { p.holds with request := held } }) s)

theorem witness_Readings :
    runningPhase shut = none ∧
      (runningPhase (heating 52 0)).map (fun x => (x.1.heatTarget, x.2.stage, x.2.stageEnd)) =
        some (some 100, .heating, none) ∧
      ((100 : Nat) ≤ 100 ∧ (99 : Nat) < 100 ∧ (4 : Int) ≤ 4 ∧ (196 : Int) ≤ 196) ∧
      (runningPhase holding).map (fun x => (x.1.heatTarget, x.2.stage)) = some (some 100, .holding) ∧
      (runningPhase (running mainRecord .dosing)).map (·.2.stage) = some .dosing ∧
      (runningPhase (running dryRecord .airing)).map (·.1.heatTarget) = some none ∧
      (runningPhase (onProgram (fun p => { p with
        phase := some ⟨.heating, some .finished, 0, 40, true, false, false, none⟩ }) (heating 52 0))).map (·.2.stageEnd) =
          some (some .finished) := by decide

/-- The target ends HEATING, heated (R56); under a suspension the end is kept and the peak is taken (R54, R56); 1.5 °C below
the target the heater goes ON again, 1.0 °C below it stays (Table 3-1). -/
theorem test_heating_readings :
    (nextOf (exec (.temperatureReading 100) (regulated false (heating 52 0)))).map (fun t =>
        (runningStage t, t.prog.phase.map (·.heated), t.therm.regulator)) = some (some .holding, some true, some false) ∧
      (nextOf (exec (.temperatureReading 100) (regulated true (heating 52 0)))).map (fun t =>
        (runningStage t, t.prog.phase.map (fun ph => (ph.stageEnd, ph.peak)))) =
          some (some .heating, some (some .finished, 100)) ∧
      (nextOf (exec (.temperatureReading 97) (withThermal (fun t => { t with regulator := some false })
        (heating 52 0)))).map (fun t => t.therm.regulator) = some (some true) ∧
      (nextOf (exec (.temperatureReading 98) (withThermal (fun t => { t with regulator := some false })
        (heating 52 0)))).map (fun t => t.therm.regulator) = some (some false) := by decide

theorem witness_HoldExpiry :
    (runningPhase holding).map (fun x => (x.1.kind, x.1.soilSample, x.2.stage, x.2.stageEnd)) =
        some (.pre, true, .holding, none) ∧
      suspended holding = false ∧ holding.therm.hold ≠ none ∧ holding.notes.standing.soilSensor = false ∧
      (1 : Turbidity) ≠ 0 ∧ (1 : Turbidity) ≠ 1023 ∧ (1022 : Turbidity) ≠ 1023 ∧
      (runningPhase (running mainRecord .holding)).map (·.1.kind) = some .main ∧
      (running mainRecord .holding).therm.hold = none := by decide

def atPosition (p : Option (Fin 4)) : State := withThermal (fun t => { t with position := p }) shut

/-- The diverter turns: DOSING of an ALTERNATE phase, its wanted zone LOWER and the position 0. -/
def turning : State :=
  withThermal (fun t => { t with position := some 0, wanted := some .lower }) (running mainRecord .heating)

def alternating : State :=
  withThermal (fun t => { t with position := some 1, wanted := some .lower, alternate := some 0 })
    (running mainRecord .heating)

def diverterOverridden : State :=
  { service with sup := { service.sup with overrides := { service.sup.overrides with diverter := true } } }

/-- The diverter fault standing while its override turns it. -/
def diverterJammed : State :=
  { diverterOverridden with notes := { diverterOverridden.notes with
      standing := { diverterOverridden.notes.standing with diverterStall := true } } }

theorem witness_Diverter :
    (atPosition none).therm.position = none ∧ (atPosition (some 3)).therm.position = some 3 ∧
      ((atPosition (some 2)).therm.position = some 2 ∧ (2 : Fin 4) ≠ 3) ∧
      (alternating.therm.alternate ≠ none ∧ circulating alternating = true ∧
        alternating.notes.standing.diverterStall = false) ∧
      diverterFinal shut = false ∧
      (diverterFinal turning = true ∧ turning.sup.overrides.diverter = false ∧
        turning.notes.standing.diverterStall = false) ∧
      (diverterFinal diverterOverridden = true ∧ diverterOverridden.sup.overrides.diverter = true ∧
        diverterOverridden.notes.standing.diverterStall = false) ∧
      (diverterFinal diverterJammed = true ∧ diverterJammed.notes.standing.diverterStall = true) ∧
      (turning.therm.wanted = some .lower ∧ (runningPhase turning).map (·.1.zones) = some (some .alternate)) ∧
      (turning.therm.alternate = none ∧ shut.therm.wanted = none) := by decide

/-- A detent at 3 brings 0, at UNKNOWN leaves UNKNOWN (R64). -/
theorem test_detent :
    (nextOf (exec .detentPulse (atPosition (some 3)))).map (fun t => t.therm.position) = some (some 0) ∧
      (nextOf (exec .detentPulse (atPosition none))).map (fun t => t.therm.position) = some none := by decide

/-- A detent that leaves the wanted set discards the ALTERNATE timer, one into it starts it (R66); a stall of the
drive sets DIVERTER_STALL and logs it (R67). -/
theorem test_diverter :
    (nextOf (exec .detentPulse alternating)).map (fun t => (t.therm.position, t.therm.alternate)) =
        some (some 2, none) ∧
      (nextOf (exec .detentPulse turning)).map (fun t => (t.therm.position, t.therm.alternate)) =
        some (some 1, some 30000) ∧
      (nextOf (exec .diverterStall turning)).map (fun t =>
        (t.notes.standing.diverterStall, t.notes.log.getLast?.map (·.code))) = some (true, some .diverterStall) := by
  decide

/-- A first stall under the override sets DIVERTER_STALL and logs it, a further one logs nothing (R67; log 19). -/
theorem test_diverter_override :
    (nextOf (exec .diverterStall diverterOverridden)).map (fun t =>
        (t.notes.standing.diverterStall, t.notes.log.map (·.code))) = some (true, [.storeLost, .diverterStall]) ∧
      (nextOf (exec .diverterStall diverterJammed)).map (fun t => t.notes.log) = some diverterJammed.notes.log := by
  decide

def draining (st : DrainState) (window : Bool) (s : State) : State :=
  withThermal (fun t => { t with drain := some ⟨.phase, st, 0, 0, window⟩ }) s

/-- A regeneration extension: the softener flushes through the window of the phase's job. -/
def extended : State :=
  let s := draining .tailing true (running { preRecord with regenWindow := true } .draining)
  { s with soft := { s.soft with state := .flush, window := .phase } }

theorem witness_DrainJob :
    (shut.mon.level.read = true ∧ shut.mon.level.state = true) ∧
      ((draining .tailing false (running preRecord .draining)).therm.drain = some ⟨.phase, .tailing, 0, 0, false⟩ ∧
        drainHeld (draining .tailing false (running preRecord .draining)) ⟨.phase, .tailing, 0, 0, false⟩ = false ∧
        extension (draining .tailing false (running preRecord .draining)) = false) ∧
      (extended.therm.drain = some ⟨.phase, .tailing, 0, 0, true⟩ ∧
        drainHeld extended ⟨.phase, .tailing, 0, 0, true⟩ = false ∧ extension extended = true) ∧
      DrainState.pumping ≠ .dryHeld := by decide

/-- The dry level switch: `levelSwitchChange true` finds it so. -/
theorem witness_DrainLevelDry :
    let s := draining .pumping false { shut with mon := { shut.mon with level := off } }
    s.mon.level.read = true ∧ s.mon.level.state = false ∧ s.therm.drain = some ⟨.phase, .pumping, 0, 0, false⟩ := by
  decide

/-- CANCELLING over a wet tank, its job TAILING. -/
def cancelDrain : State :=
  withThermal (fun t => { t with drain := some ⟨.cancel, .tailing, 0, 0, true⟩ })
    (onProgram (fun p => { p with tankWet := true }) (withProgram .cancelling []))

theorem witness_DrainExpiries :
    shut.therm.drain = none ∧
      (cancelDrain.therm.drain = some ⟨.cancel, .tailing, 0, 0, true⟩ ∧ cancelDrain.prog.state = .cancelling ∧
        leakPresent cancelDrain = false ∧ inhibited cancelDrain = false ∧ extension cancelDrain = false ∧
        cancelDrain.sup.overrides.inlet = false) ∧
      inhibited { cancelDrain with mon := { cancelDrain.mon with inhibit := on } } = true ∧
      (let s := draining .tailing false (running preRecord .draining)
       (runningPhase s).map (·.2.stage) = some .draining ∧ suspended s = false ∧ extension s = false ∧
         s.sup.overrides.inlet = false ∧ suspended (regulated true s) = true) ∧
      (draining .pumping false shut).therm.drain = some ⟨.phase, .pumping, 0, 0, false⟩ ∧
      (draining .dryHeld true shut).therm.drain = some ⟨.phase, .dryHeld, 0, 0, true⟩ := by decide

/-- The cancel drain's tail ends in IDLE with the tank dry, its timeout in FAULTED with the tank wet, and a held one takes
neither (R13, R14, R16, R70, R72). -/
theorem test_cancel_drain_ends :
    (nextOf (exec .drainTailExpiry cancelDrain)).map (fun t => (t.prog.state, t.prog.tankWet)) =
        some (.idle, false) ∧
      (nextOf (exec .drainBlocked cancelDrain)).map (fun t => (t.prog.state, t.prog.tankWet)) =
        some (.faulted, true) ∧
      (let s := { cancelDrain with mon := { cancelDrain.mon with inhibit := on } }
       nextOf (exec .drainTailExpiry s) = some s ∧ nextOf (exec .drainBlocked s) = some s) := by decide

/-! ### The softener -/

def withSoft (f : Softener → Softener) (s : State) : State := { s with soft := f s.soft }

def waitWindow (s : State) : State := withSoft (fun f => { f with state := .waitWindow, charged := true }) s

/-- FLUSH through the cancel drain's window, the pump on. -/
def flushing : State :=
  withSoft (fun f => { f with state := .flush, flush := some 0, window := .cancel })
    (withThermal (fun t => { t with drain := some ⟨.cancel, .pumping, 0, 0, true⟩ }) (withProgram .cancelling []))

theorem witness_BrineFillAndFlush :
    (shut.soft.state = .pending ∧ shut.sup.mode = .normal ∧ runningStage shut ≠ some .filling ∧
        leakPresent shut = false ∧ inhibited shut = false ∧ shut.soft.retryBlock = false ∧ grantable shut = true) ∧
      grantable washing = false ∧ (withSoft (fun f => { f with retryBlock := true }) shut).soft.retryBlock = true ∧
      ((waitWindow shut).soft.state = .waitWindow ∧ (waitWindow shut).prog.state = .idle ∧
        (waitWindow shut).therm.drain = none ∧ doorClosed (waitWindow shut) = true) ∧
      doorClosed (opened (waitWindow shut)) = false ∧
      (let s := waitWindow (draining .pumping true (running preRecord .draining))
       s.therm.drain = some ⟨.phase, .pumping, 0, 0, true⟩ ∧ drainHeld s ⟨.phase, .pumping, 0, 0, true⟩ = false ∧
         s.sup.mode = .normal) ∧
      (shut.soft.state ≠ .waitWindow ∧ leakPresent (leaking (waitWindow shut)) = true ∧
        inhibited { waitWindow shut with mon := { shut.mon with inhibit := on } } = true ∧
        (waitWindow service).sup.mode ≠ .normal ∧ (quiet (waitWindow shut)).sup.mode ≠ .normal) := by decide

/-- In SERVICE the softener waits in WAIT_WINDOW beside the open window of a cancel drain; in NORMAL it enters FLUSH
through it (R85, R93, R164). -/
theorem test_flush_waits_in_service :
    let s := waitWindow (withThermal (fun t => { t with drain := some ⟨.cancel, .pumping, 0, 0, true⟩ }) service)
    (nextOf (exec .flushEntry s)).map (fun t => t.soft.state) = some .waitWindow ∧
      (nextOf (exec .flushEntry { s with sup := { s.sup with mode := .normal } })).map (fun t =>
        (t.soft.state, t.soft.window)) = some (.flush, .cancel) := by decide

theorem witness_SoftenerTimers :
    shut.soft.dissolve = none ∧ (withSoft (fun f => { f with dissolve := some 0 }) shut).soft.dissolve ≠ none ∧
      (flushing.soft.flush ≠ none ∧ flushing.soft.state = .flush ∧ brineFinal flushing = true ∧
        grantable flushing = true) ∧
      brineFinal shut = false ∧ (withSoft (fun f => { f with tail := some 0 }) shut).soft.tail ≠ none ∧
      shut.soft.tail = none := by decide

/-- With the salt switch at "no salt" the restore factor is the low-salt one (R84); the default is 25 percent. -/
theorem test_low_salt :
    (nextOf (exec .dissolveExpiry (withSoft (fun f => { f with state := .dissolve, dissolve := some 0 })
      { shut with mon := { shut.mon with salt := on } }))).map (fun t =>
        (t.soft.state, t.soft.charged, t.soft.factor)) = some (.waitWindow, true, 25) := by decide

theorem witness_RegenerateAndSalt :
    (withSoft (fun f => { f with state := .idle }) shut).soft.state = .idle ∧ shut.soft.state = .pending ∧
      ((waitWindow shut).soft.state ≠ .idle ∧ (waitWindow shut).soft.state ≠ .pending) ∧
      shut.mon.salt.read = false ∧ ({ shut.mon with salt := on }).salt.state = true := by decide

/-! ### Doses -/

/-- A final fill of 5000 mL, all softened, in soil class 2. -/
def dosed : State :=
  onProgram (fun p => { p with soilClass := 2 })
    (withWater (fun w => { w with record := some ⟨.wash, some 5000, 250, 2000, 5000, 5000, 0, some .target, true⟩ }) shut)

theorem witness_Plans :
    dosed.water.record ≠ none ∧ dosed.cal.dminD ≤ dosed.cal.dmaxD ∧
      ({ dosed.cal with rinseLevel := 0 }).rinseLevel = 0 ∧ dosed.cal.rinseLevel ≠ 0 ∧
      dosed.cal.dminR ≤ dosed.cal.dmaxR := by decide

theorem defaults_sound : Settings.defaults.sound := by
  refine ⟨by decide, by decide, ?_, by decide, by decide, by decide, by decide, by decide, by decide⟩
  intro item slot lo hi hs h
  have hb : ∀ i : Fin 38, ∀ n : Fin 8, ∀ x ∈ (calRange i.val n.val), x.1 ≤ calValue Settings.defaults i.val n.val ∧
      calValue Settings.defaults i.val n.val ≤ x.2 := by decide
  have hi : item < 38 := by
    rcases Nat.lt_or_ge item 38 with h' | h'
    · exact h'
    · have : calRange item slot = none := by
        unfold calRange
        split <;> first | omega | rfl
      simp [this] at h
  exact hb ⟨item, hi⟩ ⟨slot, by omega⟩ (lo, _) h

theorem witness_DoseArithmetic :
    Settings.defaults.sound ∧ (8800 : Nat) ≤ 8800 ∧ 8000 + 800 = 8800 ∧ 0 < Settings.defaults.vsD :=
  ⟨defaults_sound, by decide, by decide, by decide⟩

/-! ### Dosing -/

def aPlan : DosePlan := ⟨.detergent, some ⟨20000, .none, 0, 0⟩, some 1, 500, 40, 3, 0, 0, none⟩

/-- A detergent stroke in flight in DOSING. -/
def stroking : State :=
  let s := running mainRecord .dosing
  { s with dose := { s.dose with plan := some aPlan }
           dosing := { s.dosing with stroke := some 3000, detergent := ⟨100000, true, false, none, none, 0⟩ } }

def runningOut : State :=
  { shut with dosing := { shut.dosing with detergent := ⟨100000, true, false, none, some 100, 0⟩ } }

def doseOverridden : State :=
  { service with sup := { service.sup with overrides := { service.sup.overrides with doseR := true } } }

/-- A detergent stroke in flight beside an earlier detergent run-out, with these timers. -/
def bothRunning (stroke runOut : Nat) : State :=
  { stroking with dosing := { stroking.dosing with
      stroke := some stroke, detergent := ⟨100000, true, false, none, some runOut, 0⟩ } }

theorem witness_Strokes :
    (strokeInFlight stroking .detergent = true ∧ stroking.dose.plan = some aPlan ∧ stroking.dosing.stroke ≠ none ∧
        pumpFinal stroking .detergent = true) ∧
      (strokeInFlight runningOut .detergent = false ∧ (runningOut.dosing.get .detergent).runOut ≠ none ∧
        pumpFinal runningOut .detergent = true) ∧
      (strokeInFlight doseOverridden .rinseAid = false ∧ (doseOverridden.dosing.get .rinseAid).runOut = none ∧
        doseOverridden.sup.overrides.dose .rinseAid = true) ∧
      (strokeInFlight shut .rinseAid = false ∧ shut.sup.overrides.dose .rinseAid = false ∧
        pumpFinal shut .rinseAid = false) ∧
      (strokeInFlight (bothRunning 500 500) .detergent = true ∧ pumpFinal (bothRunning 500 500) .detergent = true ∧
        (bothRunning 500 500).dosing.stroke = some 500 ∧
        ((bothRunning 500 500).dosing.get .detergent).runOut = some 500) ∧
      (strokeInFlight (bothRunning 501 500) .detergent = true ∧ pumpFinal (bothRunning 501 500) .detergent = true ∧
        (500 : Nat) < 501) ∧
      (runningOut.dosing.get .detergent).runOut = some 100 := by decide

/-- One pulse delivers the stroke, from 37 uncounted to 36, and ends the run-out of its reservoir (R117, R121). -/
theorem test_pulse_ends_both :
    (nextOf (exec (.strokePulse .detergent) (bothRunning 500 2900))).map (fun t =>
      (t.dose.plan.map (·.delivered), t.dosing.detergent.runOut, t.dosing.stroke, t.notes.standing.pumpD)) =
        some (some 4, none, some 0, false) := by decide

/-- The 3 s of the run-out end it with the fault, and the stroke goes on with its own timer and its counts (R121). -/
theorem test_run_out_times_out_first :
    (nextOf (exec (.strokeTimeout .detergent) (bothRunning 500 3000))).map (fun t =>
      (t.notes.standing.pumpD, t.dosing.detergent.runOut, t.dosing.stroke, t.dose.plan)) =
        some (true, none, some 500, some aPlan) ∧
      strokeDue (bothRunning 500 3000) .detergent = true := by decide

/-- A stroke's timeout turns its 37 uncounted strokes into shortfall and leaves the account (R118). -/
theorem test_stroke_timeout :
    (nextOf (exec (.strokeTimeout .detergent) stroking)).map (fun t =>
      (t.notes.standing.pumpD, t.dosing.detergent.account)) = some (true, 100000) := by decide

theorem witness_Withdrawal :
    (stroking.dose.plan = some aPlan ∧ stroking.dosing.stroke ≠ none ∧
        aPlan.delivered + 1 + aPlan.shortfall + aPlan.withdrawn ≤ aPlan.planned ∧ aPlan.amounts ≠ none ∧
        (runningPhase stroking).map (·.2.stage) = some .dosing ∧ forcedOff stroking = false ∧
        stroking.mon.leak.state = false ∧ stroking.sup.mode ≠ .quiet) ∧
      (let s := { stroking with dosing := { stroking.dosing with stroke := none } }
       s.dose.plan = some aPlan ∧ s.dosing.stroke = none) ∧ shut.dose.plan = none := by decide

theorem witness_Withdrawal_reaches : reaches .link .all stroking := by
  unfold reaches holdBars
  decide

/-- A leak with 3 of 40 strokes delivered: the one in flight is the fourth, and 36 are withdrawn (R119, R121). -/
theorem test_withdrawal_counts :
    (nextOf (exec .leakOnset stroking)).map (fun t => (t.notes.ring.getLast?.bind (·.doseD)).map (fun d =>
      (d.planned, d.delivered, d.shortfall, d.withdrawn))) = some (some (40, 4, 0, 36)) := by decide

def switches (low cap : Switch) : State :=
  { shut with mon := { shut.mon with lowD := low, capD := cap, lowR := low, capR := cap } }

theorem witness_LowAndCap :
    (((switches off off).mon.get (lowInput .detergent)).read = true ∧
        ((switches off off).mon.get (lowInput .detergent)).state = false) ∧
      (shut.mon.get (lowInput .rinseAid)).read = false ∧
      (((switches on on).mon.get (lowInput .rinseAid)).read = true ∧
        ((switches on on).mon.get (lowInput .rinseAid)).state = true) ∧
      (shut.mon.get (capInput .detergent)).read = false ∧
      (((switches on on).mon.get (capInput .detergent)).read = true ∧
        ((switches on on).mon.get (capInput .detergent)).state = true) ∧
      ((switches off off).mon.get (capInput .detergent)).state = false := by decide

/-- A low reading on D begins RES_LOW on D alone, with the account at the low mark; the not-low reading ends it (R123,
R125). -/
theorem test_low_switch :
    (nextOf (exec (.lowSwitchChange .detergent true) (switches off off))).map (fun t =>
      (t.dosing.detergent.known, t.notes.conditions.resLowD, t.notes.conditions.resLowR,
        (t.notes.get .link).count .resLowD)) = some (true, true, false, 1) ∧
      ((nextOf (exec (.lowSwitchChange .detergent true) (switches off off))).bind (fun t =>
        nextOf (exec (.lowSwitchChange .detergent false) t))).map (fun t => t.notes.conditions.resLowD) =
          some false := by decide

/-! ### The stages of a running phase -/

/-- That stage of a phase with that end reported, over the queue given. -/
def ended (e : StageEnd) (st : Stage) (q : List PhaseRecord) : State :=
  onProgram (fun p => { p with queue := q, phase := p.phase.map (fun ph => { ph with stageEnd := some e }) })
    (running preRecord st)

/-- The tail of the last drain of a queue. -/
def lastTail (q : List PhaseRecord) : State :=
  onProgram (fun p => { p with queue := q, tankWet := true }) (draining .tailing false (running preRecord .draining))

theorem witness_Stages :
    ((runningPhase filling).map (fun x => (x.1.kind.wet, x.2.stageEnd)) = some (true, none) ∧
        suspended doorHeld = true ∧ doorClosed (opened filling) = false) ∧
      ((runningPhase (ended .finished .filling [mainRecord])).map (fun x => (x.1.doses, x.2.stage, x.2.stageEnd)) =
          some (true, .filling, some .finished) ∧ suspended (ended .finished .filling [mainRecord]) = false) ∧
      (runningPhase (ended .finished .filling [preRecord])).map (fun x => (x.1.doses, x.1.heatTarget.isSome)) =
        some (false, true) ∧
      ([Stage.dosing, .heating, .holding, .draining].all fun st =>
        (runningPhase (ended .finished st [preRecord])).map (fun x => (x.2.stage, x.2.stageEnd)) ==
          some (st, some .finished)) = true ∧
      (runningPhase (ended (.goto .airing) .opening [dryRecord])).map (fun x => (x.2.stage, x.2.stageEnd)) =
        some (.opening, some (.goto .airing)) ∧
      (runningPhase (ended .done .retracting [dryRecord])).map (fun x => (x.2.stage, x.2.stageEnd)) =
        some (.retracting, some .done) := by decide

/-- HOLDING with its timer, and the drain's tail before the program's end and before another wet phase. -/
theorem witness_StageCommands :
    ((runningPhase holding).map (fun x => (x.2.stage, x.2.stageEnd)) = some (.holding, none) ∧
        suspended holding = false ∧ doorClosed holding = true ∧ rodHome holding = true ∧ holding.therm.hold ≠ none) ∧
      ((lastTail [preRecord]).therm.drain = some ⟨.phase, .tailing, 0, 0, false⟩ ∧
        extension (lastTail [preRecord]) = false ∧ suspended (lastTail [preRecord]) = false ∧
        (lastTail [preRecord]).sup.overrides.inlet = false) ∧
      ((lastTail [preRecord, mainRecord]).prog.queue = preRecord :: mainRecord :: [] ∧ mainRecord.kind.wet = true) := by
  decide

/-- The tail's expiry ends the last phase in IDLE with PHASE_DONE and PROGRAM_END, the tank dry; with another record it
begins that in FILLING and the program goes on (R13, R15, R18). -/
theorem test_last_tail :
    (nextOf (exec .drainTailExpiry (lastTail [preRecord]))).map (fun t =>
      (t.prog.state, t.prog.tankWet, (t.notes.get .panel).count .phaseDone, (t.notes.get .panel).count .programEnd)) =
        some (.idle, false, 1, 1) ∧
      (nextOf (exec .drainTailExpiry (lastTail [preRecord, mainRecord]))).map (fun t =>
        (t.prog.state, runningStage t, (t.notes.get .panel).count .programEnd)) =
          some (.running, some .filling, 0) := by decide

/-- A cancel drain that completes under the inlet override leaves the tank dry: the valve stood open, it did not open
(R13). -/
theorem test_cancel_drain_under_override :
    (nextOf (exec .drainTailExpiry (withWater (fun w => { w with inletOpen := true })
      (withThermal (fun t => { t with drain := some ⟨.cancel, .tailing, 0, 0, false⟩ })
        (onProgram (fun p => { p with state := .cancelling, tankWet := true }) inletOverridden))))).map (fun t =>
          (t.prog.state, t.prog.tankWet, inletFinal t)) = some (.idle, false, true) := by decide

/-! ### The door rod -/

def withRod (f : Rod → Rod) (s : State) : State := { s with rod := f s.rod }

/-- A move to slot 2 (here 600 counts) in that direction, driving as given. -/
def move (dir : Direction) (drive : Drive) (stalls : Nat) : Motion :=
  ⟨.move 2 600 100 10, .service, dir, drive, false, stalls, 0, 0, 0, 0⟩

def approach : Motion := ⟨.approach 0 8000, .start, .inward, .slow, false, 0, 0, 0, 0, 0⟩

/-- SERVICE with that motion at that count. -/
def moving (m : Motion) (count : Int) : State :=
  withRod (fun r => { r with motion := some m, count := count, referenced := true }) service

/-- A slow approach after `n` invalid transitions. -/
def slipping (n : Nat) : Motion := { approach with invalids := n }

theorem witness_Encoder :
    shut.rod.encA = false ∧ shut.rod.encB = false ∧ shut.rod.motion = none ∧
      (moving (move .outward .fast 0) 0).rod.motion ≠ none ∧ (true ≠ shut.rod.encA ∧ false = shut.rod.encB) ∧
      (true ≠ shut.rod.encA ∧ true ≠ shut.rod.encB) ∧
      ((moving (slipping 1) 0).rod.motion = some (slipping 1) ∧ (slipping 1).invalids < 2) ∧
      ((moving (slipping 2) 0).rod.motion = some (slipping 2) ∧ 2 ≤ (slipping 2).invalids ∧
        (moving (slipping 2) 0).prog.state ≠ .running) := by decide

/-- A step in a motion to 1501 and to 1500 outward, and to an inward travel of 2000 and of 1999. -/
theorem witness_EncoderInMotion :
    (move .outward .fast 0).kind = .move 2 600 100 10 ∧ (move .outward .fast 0).direction = .outward ∧
      (move .outward .fast 0).paused = false ∧ (move .outward .fast 0).drive = .fast ∧
      (moving (move .outward .fast 0) 1500).rod.count + encoderStep false false true false = 1501 ∧
      (moving (move .outward .fast 0) 1499).rod.count + encoderStep false false true false = 1500 ∧
      approach.kind = .approach 0 8000 ∧
      (2000 : Int) ≤ 0 - ((moving approach (-1999)).rod.count + encoderStep false false false true) ∧
      (0 : Int) - ((moving approach (-1998)).rod.count + encoderStep false false false true) < 2000 := by decide

/-- The count is held at 32,767 (R130). -/
theorem test_encoder_held :
    (nextOf (exec (.encoderEvent true false) (withRod (fun r => { r with count := 32767 }) shut))).map
      (fun t => t.rod.count) = some 32767 := by decide

theorem witness_HomeSwitch :
    (let s := { moving approach 0 with mon := { service.mon with home := off } }
     s.mon.home.read = true ∧ s.mon.home.state = false ∧ approachInProgress s = true ∧
       s.rod.motion = some approach ∧ s.prog.state ≠ .running) ∧
      approachInProgress { shut with mon := { shut.mon with home := off } } = false ∧
      (shut.mon.home.read = true ∧ shut.mon.home.state = true) := by decide

/-- The closing ends the approach REFERENCED at count 0 (R133); a third invalid transition ends it ENCODER (R131). -/
theorem test_approach_ends :
    (nextOf (exec (.homeSwitchChange true) { moving approach 40 with mon := { service.mon with home := off } })).map
      (fun t => (t.rod.motion.isSome, t.rod.last.map (·.1), t.rod.count)) =
        some (false, some .referenced, 0) ∧
      (nextOf (exec (.encoderEvent true true) (moving (slipping 2) 40))).map
        (fun t => (t.rod.motion.isSome, t.rod.last.map (·.1), t.rod.count)) =
          some (false, some .encoder, 40) := by decide

def drying (st : Stage) : State :=
  withRod (fun r => { r with dryWait := some 0, airing := some 0 }) (running dryRecord st)

theorem witness_RodTimers :
    (approach.isApproach = true ∧ approach.paused = false ∧ (moving approach 0).prog.state ≠ .running) ∧
      ({ approach with paused := true }).paused = true ∧ (move .outward .fast 0).isApproach = false ∧
      ((move .outward .settling 0).kind = .move 2 600 100 10 ∧
        ((585 : Int) - ((600 : Nat) : Int)).natAbs ≤ 15 ∧ 15 < ((584 : Int) - ((600 : Nat) : Int)).natAbs) ∧
      ((runningPhase (drying .dryWait)).map (fun x => (x.2.stage, x.2.stageEnd)) = some (.dryWait, none) ∧
        suspended (drying .dryWait) = false ∧ (drying .dryWait).rod.dryWait ≠ none) ∧
      ((runningPhase (drying .airing)).map (fun x => (x.2.stage, x.2.stageEnd)) = some (.airing, none) ∧
        (drying .airing).rod.airing ≠ none) ∧
      suspended (onProgram (fun p => { p with holds := { p.holds with request := true } }) (drying .airing)) = true := by
  decide

/-- A DRY phase in that stage with that motion ended or under way at count 600. -/
def dryMoving (m : Motion) (st : Stage) : State :=
  withRod (fun r => { r with motion := some m, count := 600, referenced := true }) (running dryRecord st)

def dryMove : Motion := { move .outward .settling 0 with client := .dry }

theorem witness_MotionEnds :
    (runningPhase shut = none ∧ (runningPhase (drying .airing)).map (·.2.stage) = some .airing ∧
        (Stage.airing ≠ .dryWait ∧ Stage.airing ≠ .opening ∧ Stage.airing ≠ .retracting)) ∧
      ((runningPhase (dryMoving dryMove .opening)).map (fun x => (x.1.kind, x.1.openSlot, x.1.airing)) =
          some (.dry, some 2, some 120) ∧
        (runningPhase (dryMoving dryMove .opening)).map (fun x => (x.2.stage, x.2.stageEnd)) =
          some (.opening, none) ∧ suspended (dryMoving dryMove .opening) = false ∧
        dryMove.client = .dry ∧ dryMove.kind = .move 2 600 100 10 ∧ dryMove.drive = .settling) ∧
      (runningPhase (dryMoving dryMove .retracting)).map (·.2.stage) = some .retracting ∧
      (approach.client = .start ∧ approach.kind = .approach 0 8000 ∧ approach.isApproach = true) ∧
      (move .outward .fast 0).client = .service := by decide

theorem witness_RodDecisions :
    ((dryMoving dryMove .opening).rod.referenced = true ∧ shut.rod.referenced = false ∧
        shut.notes.standing.referenceFail = false ∧ shut.notes.standing.rodStuck = false ∧
        shut.notes.standing.encoder = false) ∧
      (((dryMoving dryMove .opening).cal.releaseLower : Int) ≤ (dryMoving dryMove .opening).rod.count ∧
        shut.rod.count < (shut.cal.releaseLower : Int)) ∧
      (shut.mon.home.state = true ∧ ({ shut.mon with home := off }).home.state = false) := by decide

/-- The OPENING move in position names AIRING, obstructed below the latch RETRACTING with "opening blocked" (R146); the home
switch ends RETRACTING's approach and the phase (R148). -/
theorem test_motion_ends :
    (nextOf (exec .settleTimerExpiry (dryMoving dryMove .opening))).map (fun t => (runningStage t, t.rod.airing)) =
        some (some .airing, some 120000) ∧
      (nextOf (exec .motionStall (withRod (fun r => { r with count := 0 })
        (dryMoving { dryMove with drive := .fast } .opening)))).map (fun t => (runningStage t, t.rod.openingBlocked)) =
          some (some .retracting, true) ∧
      (nextOf (exec (.homeSwitchChange true)
        (let s := dryMoving { approach with client := .dry } .retracting
         { s with mon := { s.mon with home := off } }))).map (fun t => (t.prog.state, t.rod.referenced)) =
          some (.idle, true) := by decide

theorem witness_Stalls :
    (motorFinal (moving (move .outward .fast 0) 0) ≠ none ∧ (move .outward .fast 0).direction = .outward) ∧
      (motorFinal (moving (move .inward .fast 0) 1000) ≠ none ∧ (move .inward .fast 0).stalls = 0) ∧
      (motorFinal (moving (move .inward .fast 1) 1000) ≠ none ∧ (move .inward .fast 1).stalls ≠ 0) ∧
      ((move .inward .retryWait 1).drive = .retryWait ∧ (move .inward .retryWait 1).paused = false) ∧
      motorFinal (moving (move .inward .settling 0) 1000) = none := by decide

theorem witness_RodRequests :
    shut.sup.mode ≠ .service ∧ service.sup.mode = .service ∧ 7 < (8 : Byte).toNat ∧ (7 : Byte).toNat ≤ 7 ∧
      (service.rod.motion = none ∧ service.rod.referenced = false) ∧
      (withRod (fun r => { r with referenced := true }) service).rod.referenced = true ∧
      (moving approach 0).rod.motion ≠ none ∧
      (service.mon.home.state = true ∧ ({ service.mon with home := off }).home.state = false) := by decide

/-- Counts at the edges of the leads of slot 0: at rest on its target; just outside the stop lead and outside the slow lead,
below and above the target. -/
theorem witness_BeginMove :
    let x := Settings.defaults.slots[0]
    (((x.target : Int) - x.target).natAbs ≤ x.stopLead) ∧
      ((x.stopLead : Int) < x.target - (x.target - x.stopLead - 1)) ∧
      (((x.target : Int) - x.slowLead ≤ x.target - x.stopLead - 1) ∧
        ¬ ((x.target : Int) - x.slowLead ≤ x.target - x.slowLead - 1)) ∧
      ((x.stopLead : Int) < (x.target + x.stopLead + 1) - x.target) ∧
      (((x.target : Int) + x.stopLead + 1 ≤ x.target + x.slowLead) ∧
        ¬ ((x.target : Int) + x.slowLead + 1 ≤ x.target + x.slowLead)) := by decide

/-- MOVE ROD in NORMAL is refused with MODE (R150). -/
theorem test_move_rod_mode :
    (nextOf (exec (.moveRod .service 1) shut)).map (fun t => t.ports.service.answers.map (·.status)) =
      some [.refused .mode] := by decide

/-! ### Inputs, modes and the forced layer -/

theorem witness_Undelivered :
    (shut.mon.get .salt).raw = false ∧ (shut.mon.get .salt).read = false ∧
      (Instr.debouncedStateSilentUpdate .salt false).wellFormed = true ∧
      (Instr.debouncedStateSilentUpdate .salt true).wellFormed = false ∧
      (Instr.debouncedStateSilentUpdate .strokeD true).wellFormed = true := by decide

theorem witness_DoorChanges :
    (shut.mon.door.read = true ∧ shut.mon.door.state = true) ∧
      ((opened shut).mon.door.read = true ∧ (opened shut).mon.door.state = false) ∧
      (runningPhase (drying .airing)).map (fun x => (x.2.stage, x.2.stageEnd)) = some (.airing, none) ∧
      (runningPhase (drying .dryWait)).map (fun x => (x.2.stage, x.2.stageEnd)) = some (.dryWait, none) ∧
      stageOpen shut .airing = false ∧ stageOpen shut .dryWait = false ∧
      ((quiet shut).sup.wake.door = true ∧ (quiet shut).sup.mode = .quiet) := by decide

/-- The door opened in DRY_WAIT goes on to AIRING, closed in AIRING to RETRACTING (R144, R147). -/
theorem test_door_in_drying :
    (nextOf (exec (.doorSwitchChange false) (drying .dryWait))).map runningStage = some (some .airing) ∧
      (nextOf (exec (.doorSwitchChange true)
        { withRod (fun r => { r with referenced := true, count := 600 }) (drying .airing) with
          mon := { shut.mon with door := off, home := off } })).map (fun t =>
            (runningStage t, t.rod.closedEarly)) = some (some .retracting, true) := by decide

theorem witness_Leak :
    shut.mon.leak.read = false ∧ (filling.prog.state = .running ∧ filling.mon.leak.read = false) ∧
      ((leaking shut).mon.leak.read = true ∧ (leaking shut).mon.leak.state = true ∧
        (leaking shut).sup.leak = .active) ∧
      ({ shut.sup with leak := .afterRun 0 }).leak = .afterRun 0 ∧ shut.sup.leak = .none := by decide

/-- A leak during a fill: the program is FAULTED, its record gone with the ending FAULTED, the drain pump on (R16, R161). -/
theorem test_leak_faults :
    (nextOf (exec .leakOnset washing)).map (fun t =>
      (t.prog.state, t.prog.queue, t.notes.ring.map (·.ending), drainFinal t)) =
        some (.faulted, [], [.faulted], true) := by decide

def overfilled : State :=
  { washing with mon := { washing.mon with overfill := on }, sup := { washing.sup with overfill := true } }

theorem witness_Overfill :
    washing.mon.overfill.read = false ∧ (overfilled.mon.overfill.read = true ∧ overfilled.mon.overfill.state = true) ∧
      ({ overfilled.sup with overfillOpen := some 5000 }).overfillOpen ≠ none ∧
      (washing.water.holder = some .wash ∧ washing.water.record = some (washFill 800 2000 none) ∧
        (runningPhase washing).map (fun x => (x.2.stage, x.2.stageEnd)) = some (.filling, none)) ∧
      shut.sup.overfillOpen = none ∧ (serviceFilling 3).water.record.map (fun r => (r.origin, r.ending)) =
        some (.service, none) := by decide

/-- An overfill ends the wash fill OVERFILL and frees the inlet (R44). -/
theorem test_overfill :
    (nextOf (exec .overfillOnset washing)).map (fun t =>
      (t.water.record.map (·.ending), t.water.holder, t.water.window.map (·.left), inletFinal t)) =
        some (some (some .overfill), none, some 2000, false) := by decide

theorem witness_Inhibit :
    filling.mon.inhibit.read = false ∧ ({ shut.mon with inhibit := on }).inhibit.state = true ∧
      leakActive filling = false ∧ ({ filling.cal with drainPolicy := .stop }).drainPolicy = .stop := by decide

/-- Under RUN a held cancel drain keeps pumping, under STOP it stops (R72, R160). -/
theorem test_inhibit_drain_policy :
    (nextOf (exec .inhibitAssertion cancelDrain)).map (fun t => (drainFinal t, t.cal.drainPolicy)) =
        some (true, .run) ∧
      (nextOf (exec .inhibitAssertion { cancelDrain with cal := { cancelDrain.cal with drainPolicy := .stop } })).map
        drainFinal = some false := by decide

theorem witness_WakeKeyAndQuiet :
    (shut.sup.mode ≠ .quiet ∧ service.mon.servicePresent.read = true ∧ service.mon.servicePresent.state = true) ∧
      ({ shut.mon with servicePresent := off }).servicePresent.read = true ∧ service.sup.mode = .service ∧
      (filling.sup.mode = .normal ∧ filling.prog.state = .running) ∧
      (shut.sup.mode = .normal ∧ shut.prog.state = .idle ∧ shut.rod.motion = none ∧ shut.soft.state = .pending ∧
        leakPresent shut = false) ∧
      (flushing.soft.state = .flush ∧ leakPresent (leaking shut) = true) := by decide

theorem witness_HoldAndService :
    (service.mon.servicePresent.state = true ∧ shut.mon.servicePresent.state = false) ∧
      (shut.sup.mode = .normal ∧ shut.ports.hold = false) ∧
      (let s := { service with sup := shut.sup }
       s.sup.mode = .normal ∧ s.ports.hold = true ∧ s.prog.state = .idle ∧ s.soft.state = .pending ∧
         s.rod.motion = none ∧ s.dosing.detergent.runOut = none ∧ s.dosing.rinseAid.runOut = none) := by decide

theorem witness_Override :
    shut.sup.mode ≠ .service ∧ service.sup.mode = .service ∧ 9 ≤ (9 : Byte).toNat ∧ (8 : Byte).toNat < 9 := by decide

/-- Circulation level 5 is held to 4 and answered CLAMPED (R166). -/
theorem test_override_clamped :
    (nextOf (exec (.overrideOutput .service 4 5) service)).map (fun t =>
      (t.sup.overrides.circulation, t.ports.service.answers.map (·.status))) = some (4, [.clamped]) := by decide

theorem witness_Valves :
    (leakTracked washing ∧ inletFinal washing = true) ∧ (leakTracked flushing ∧ brineFinal flushing = true) ∧
      (leakTracked (leaking shut) ∧ leakPresent (leaking shut) = true) := by
  unfold leakTracked
  decide

def overridden (f : Overrides → Overrides) : State :=
  { service with sup := { service.sup with overrides := f service.sup.overrides } }

/-- Each output on, by its job demand and by its override (Table 8-3). -/
theorem witness_OutputsOn :
    (inletFinal washing = true ∧ inletFinal inletOverridden = true) ∧
      (routeFinal (softHolding .brine .brineFill) = true ∧
        routeFinal (overridden (fun o => { o with route := true })) = true) ∧
      (brineFinal flushing = true ∧ brineFinal (overridden (fun o => { o with brine := true, drain := true })) = true ∧
        brineFinal (overridden (fun o => { o with brine := true })) = false) ∧
      (circFinal (running mainRecord .heating) = 3 ∧
        circFinal (overridden (fun o => { o with circulation := 4 })) = 4) ∧
      (heaterFinal (regulated false (heating 52 0)) = true ∧
        heaterFinal (overridden (fun o => { o with circulation := 1, heater := true })) = true ∧
        heaterFinal (overridden (fun o => { o with heater := true })) = false) ∧
      (diverterFinal turning = true ∧ diverterFinal diverterOverridden = true) ∧
      (pumpFinal stroking .detergent = true ∧ pumpFinal runningOut .detergent = true ∧
        pumpFinal doseOverridden .rinseAid = true) ∧
      (motorFinal (moving (move .outward .fast 0) 0) = some (.outward, true) ∧
        motorFinal (moving approach 0) = some (.inward, false)) ∧
      (drainFinal (leaking shut) = true ∧ drainFinal cancelDrain = true ∧
        drainFinal (overridden (fun o => { o with drain := true })) = true) := by decide

/-- Each interlock and forced state that turns an output off. -/
theorem witness_OutputsOff :
    (forcedOff (quiet shut) = true ∧ (quiet shut).sup.mode = .quiet ∧ (leaking shut).sup.leak ≠ .none) ∧
      (let s := running mainRecord .heating
       doorClosed (opened s) = false ∧ circFinal (opened s) = 0 ∧
         levelWater { s with mon := { s.mon with level := off } } = false ∧
         rodHome { s with mon := { s.mon with home := off } } = false) ∧
      (let s := { shut with mon := { shut.mon with inhibit := on }, cal := { shut.cal with drainPolicy := .stop } }
       s.sup.leak = .none ∧ inhibited s = true ∧ s.cal.drainPolicy = .stop) ∧
      (shut.sup.leak = .none ∧ inhibited shut = false ∧ shut.sup.mode ≠ .quiet) ∧
      (suspended (regulated true filling) = true ∧ (runningPhase filling).map (·.2.stage) = some .filling) := by decide

/-! ### Settings and the record store -/

theorem witness_Settings :
    70 < (71 : Byte).toNat ∧ ¬ 70 < (70 : Byte).toNat ∧ 6 < (7 : Byte).toNat ∧
      ({ shut.store with writing := none }).writing = none ∧ powerFailing shut = false ∧
      shut.store.writing ≠ none := by decide

theorem witness_WriteCalibration :
    calRange 1 0 = none ∧ calRange 38 0 = none ∧ (31 ≤ (31 : Byte).toNat ∧ (33 : Byte).toNat ≤ 33) ∧
      7 < (8 : Byte).toNat ∧ 1 < (2 : Word32).toNat ∧ calRange 20 0 = some (1000, 60000) ∧
      calRelation (calStore Settings.defaults 20 0 60000) 20 = false ∧
      calRelation (calStore Settings.defaults 20 0 1000) 20 = true ∧
      runningPhase (leaking shut) = none ∧ (leakPresent (leaking shut) = true ∧ (leaking shut).sup.leak = .active) ∧
      leakPresent shut = false ∧ 1 ∉ [4, 5, 10, 25, 26, 29, 30, 34, 36, 37] := by decide

/-- A new restore factor reaches a factor held low, and no other (Table 4-1); a new polarity ends a leak (R155). -/
theorem test_calibration_effects :
    (nextOf (exec (.writeCalibration .service 10 0 40) (withSoft (fun f => { f with factor := 25 }) shut))).map
        (fun t => t.soft.factor) = some 40 ∧
      (nextOf (exec (.writeCalibration .service 10 0 40) (withSoft (fun f => { f with factor := 100 }) shut))).map
        (fun t => t.soft.factor) = some 100 ∧
      (nextOf (exec (.writeCalibration .service 36 0 1) (leaking shut))).map (fun t =>
        (leakPresent t, t.sup.leak, t.notes.conditions.leak)) = some (false, .afterRun 60000, false) := by decide

def noWrite (s : State) : State := { s with store := { s.store with writing := none } }

def failing (s : State) : State := { s with mon := { s.mon with powerFail := on } }

theorem witness_Checkpoints :
    (noWrite shut).store.writing = none ∧ powerFailing shut = false ∧ shut.store.writing ≠ none ∧
      powerFailing (failing shut) = true ∧ ({ shut.store with again := true }).again = true ∧
      shut.store.again = false ∧ shut.store.restart = none := by decide

theorem witness_Restart :
    ({ shut.store with restart := some true }).restart ≠ none ∧ shut.store.restart = none ∧
      shut.store.writing ≠ none ∧ (noWrite shut).store.writing = none ∧ powerFailing (noWrite shut) = false ∧
      powerFailing (failing (noWrite shut)) = true := by decide

/-- FRESH_RESIN forms an image with C at Cfull (R184). -/
theorem test_fresh_resin :
    (nextOf (exec (.restart .service 1) (noWrite shut))).map (fun t =>
      (t.store.writing.map (·.c), t.store.restart, t.soft.c)) = some (some Settings.defaults.cfull, some true, 0) := by
  decide

theorem witness_Reset :
    shut.store.stored = none ∧ ({ shut.store with stored := some Image.defaults }).stored = some Image.defaults := by
  decide

/-! ### Notices and faults -/

/-- An acknowledgement keeps LEAK while the leak is present, and removes the rest (R188). -/
theorem test_ack_keeps_leak :
    (nextOf (exec (.ackNotices .panel) (beginCondition .leak (fun c => { c with leak := true }) shut))).map (fun t =>
      ((t.notes.get .panel).count .leak, (t.notes.get .panel).count .fault, (t.notes.get .link).count .fault)) =
        some (1, 0, 1) := by decide

theorem witness_ClearFaults :
    runningPhase shut = none ∧
      (let s := withThermal (fun t => { t with raw := some 3 })
        { shut with notes := { shut.notes with standing := { shut.notes.standing with sensorTemp := true } } }
       s.notes.standing.sensorTemp = true ∧ s.therm.raw = some 3 ∧ runningPhase s = none) ∧
      suspended doorHeld = true ∧
      ((runningPhase stroking).map (fun x => (x.2.stage, x.2.stageEnd)) = some (.dosing, none) ∧
        stroking.dosing.stroke ≠ none) ∧
      ((runningPhase (heating 51 0)).map (fun x => (x.2.stage, x.2.stageEnd)) = some (.heating, none) ∧
        (withThermal (fun t => { t with regulator := some true }) (heating 51 0)).therm.regulator ≠ none) := by decide

/-! ### What every run keeps: a state other than reset with a command waiting -/

/-- A wash fill in progress with a flow pulse waiting. -/
def busy : State := { washing with pending := [.flowPulse] }

/-- An outward OPENING move, and a stroke in flight, each at a step. -/
theorem witness_StepsKeepStrokesAndOutward :
    (strokesCounted { stroking with pending := [.strokePulse .detergent] } ∧ stroking.dosing.stroke ≠ none ∧
        ∃ t, step { stroking with pending := [.strokePulse .detergent] } = .next t) ∧
      (outwardConfined { dryMoving { dryMove with drive := .fast } .opening with pending := [.motionStall] } ∧
        ∃ t, step { dryMoving { dryMove with drive := .fast } .opening with pending := [.motionStall] } = .next t) := by
  refine ⟨⟨⟨fun p h => ?_, fun _ => ⟨by decide, _, _, rfl, rfl, rfl⟩, fun x h => (by cases h)⟩, by decide, _, rfl⟩,
    fun m h _ _ => ?_, _, rfl⟩
  · cases h
    exact ⟨by decide, _, _, rfl, Or.inr ⟨rfl, rfl⟩⟩
  · cases h
    exact Or.inl ⟨rfl, _, _, rfl, rfl, rfl⟩

theorem witness_StepsKeep :
    notesSound busy ∧ queueSound busy ∧ recordSound busy ∧ fillsExact busy ∧ serviceConfined busy ∧ leakTracked busy ∧
      ∃ t, step busy = .next t := by
  refine ⟨?_, ?_, ?_, ?_, ?_, ?_, _, rfl⟩
  · refine ⟨?_, fun _ h => (by cases h), fun img h => ?_⟩
    · unfold Notes.sound NoticeSet.sound consecutive
      decide
    · cases h
      decide
  · unfold queueSound
    decide
  · refine ⟨defaults_sound, by unfold valuesSound; decide, fun _ h => (by cases h), fun img h => ?_⟩
    cases h
    exact ⟨defaults_sound, by unfold valuesSound; decide⟩
  · refine ⟨fun r h => ?_, fun _ _ h => (by cases h), fun x h => (by cases h)⟩
    cases h
    unfold FillRecord.exact
    decide
  · unfold serviceConfined
    decide
  · unfold leakTracked
    decide

end Sys2Proof.Tests
end

section
/-!
PROOFS, the wash program (spec/01). What the operations keep of the program controller.
-/

namespace Sys2Proof.Machine

/-! ### The program controller: what each operation keeps of it

`Laws/Keeps.lean` says which blocks an operation leaves. The lemmas below go on inside the program controller's block, for the
operations that do write it: they name the fields that stay, and the running phase's stage where it stays. -/

@[simp] theorem onPhase_keepsProg (f : RunningPhase → RunningPhase) (s : State) :
    (onPhase f s).prog.state = s.prog.state ∧ (onPhase f s).prog.queue = s.prog.queue ∧
    (onPhase f s).prog.phase = s.prog.phase.map f ∧ (onPhase f s).prog.holds = s.prog.holds ∧
    (onPhase f s).prog.arm = s.prog.arm ∧ (onPhase f s).prog.delay = s.prog.delay ∧
    (onPhase f s).prog.tankWet = s.prog.tankWet ∧ (onPhase f s).prog.soilClass = s.prog.soilClass :=
  ⟨rfl, rfl, rfl, rfl, rfl, rfl, rfl, rfl⟩

@[simp] theorem reportEnd_keepsProg (e : StageEnd) (s : State) :
    (reportEnd e s).prog.state = s.prog.state ∧ (reportEnd e s).prog.queue = s.prog.queue ∧
    (reportEnd e s).prog.holds = s.prog.holds ∧ (reportEnd e s).prog.arm = s.prog.arm ∧
    (reportEnd e s).prog.delay = s.prog.delay ∧ (reportEnd e s).prog.tankWet = s.prog.tankWet ∧
    (reportEnd e s).prog.soilClass = s.prog.soilClass ∧
    (reportEnd e s).prog.phase.map (·.stage) = s.prog.phase.map (·.stage) := by
  refine ⟨rfl, rfl, rfl, rfl, rfl, rfl, rfl, ?_⟩
  cases h : s.prog.phase with
  | none => simp [reportEnd, h]
  | some ph => cases he : ph.stageEnd <;> simp [reportEnd, h, he]

@[simp] theorem enterStage_keepsProg (st : Stage) (s : State) :
    (enterStage st s).prog.state = s.prog.state ∧ (enterStage st s).prog.queue = s.prog.queue ∧
    (enterStage st s).prog.phase = s.prog.phase.map (fun ph => { ph with stage := st, stageEnd := none }) ∧
    (enterStage st s).prog.holds = s.prog.holds ∧ (enterStage st s).prog.arm = s.prog.arm ∧
    (enterStage st s).prog.delay = s.prog.delay ∧ (enterStage st s).prog.tankWet = s.prog.tankWet ∧
    (enterStage st s).prog.soilClass = s.prog.soilClass :=
  ⟨rfl, rfl, rfl, rfl, rfl, rfl, rfl, rfl⟩

@[simp] theorem onHolds_keepsProg (f : HoldSet → HoldSet) (s : State) :
    (onHolds f s).prog.state = s.prog.state ∧ (onHolds f s).prog.queue = s.prog.queue ∧
    (onHolds f s).prog.phase = s.prog.phase ∧ (onHolds f s).prog.arm = s.prog.arm ∧
    (onHolds f s).prog.delay = s.prog.delay ∧ (onHolds f s).prog.tankWet = s.prog.tankWet ∧
    (onHolds f s).prog.soilClass = s.prog.soilClass ∧ (onHolds f s).prog.stallCount = s.prog.stallCount ∧
    (onHolds f s).prog.retry = s.prog.retry := by
  simp only [onHolds]
  split <;> simp

/-! #### The fill's operations -/

@[simp] theorem askWash_keepsProg (s : State) :
    (askWash s).prog.state = s.prog.state ∧ (askWash s).prog.queue = s.prog.queue ∧
    (askWash s).prog.phase = s.prog.phase ∧ (askWash s).prog.arm = s.prog.arm ∧
    (askWash s).prog.delay = s.prog.delay ∧ (askWash s).prog.tankWet = s.prog.tankWet ∧
    (askWash s).prog.soilClass = s.prog.soilClass ∧ (askWash s).prog.stallCount = s.prog.stallCount ∧
    (askWash s).prog.retry = s.prog.retry := by
  simp only [askWash]
  repeat' split
  all_goals simp

@[simp] theorem requestWash_keepsProg (target : Nat) (s : State) :
    (requestWash target s).prog.state = s.prog.state ∧ (requestWash target s).prog.queue = s.prog.queue ∧
    (requestWash target s).prog.phase = s.prog.phase ∧ (requestWash target s).prog.arm = s.prog.arm ∧
    (requestWash target s).prog.delay = s.prog.delay ∧ (requestWash target s).prog.tankWet = s.prog.tankWet ∧
    (requestWash target s).prog.soilClass = s.prog.soilClass ∧ (requestWash target s).prog.stallCount = 0 ∧
    (requestWash target s).prog.retry = none := by
  simp [requestWash]

@[simp] theorem washFinal_keepsProg (s : State) :
    (washFinal s).prog.state = s.prog.state ∧ (washFinal s).prog.queue = s.prog.queue ∧
    (washFinal s).prog.holds = s.prog.holds ∧ (washFinal s).prog.arm = s.prog.arm ∧
    (washFinal s).prog.delay = s.prog.delay ∧ (washFinal s).prog.tankWet = s.prog.tankWet := by
  simp only [washFinal]
  split <;> simp

@[simp] theorem retryWash_keepsProg (s : State) :
    (retryWash s).prog.state = s.prog.state ∧ (retryWash s).prog.queue = s.prog.queue ∧
    (retryWash s).prog.arm = s.prog.arm ∧ (retryWash s).prog.delay = s.prog.delay ∧
    (retryWash s).prog.tankWet = s.prog.tankWet := by
  simp only [retryWash]
  repeat' split
  all_goals simp

@[simp] theorem windowFinal_keepsProg (win : SettleWindow) (s : State) :
    (windowFinal win s).prog.state = s.prog.state ∧ (windowFinal win s).prog.queue = s.prog.queue ∧
    (windowFinal win s).prog.arm = s.prog.arm ∧ (windowFinal win s).prog.delay = s.prog.delay := by
  simp only [windowFinal]
  repeat' split
  all_goals simp

@[simp] theorem grantWaiting_keepsProg (s : State) :
    (grantWaiting s).prog.state = s.prog.state ∧ (grantWaiting s).prog.queue = s.prog.queue ∧
    (grantWaiting s).prog.arm = s.prog.arm ∧ (grantWaiting s).prog.delay = s.prog.delay := by
  simp only [grantWaiting]
  repeat' split
  all_goals simp

/-! #### Strokes, heating and the stages of a wet phase -/

@[simp] theorem nextStroke_keepsProg (s : State) :
    (nextStroke s).prog.state = s.prog.state ∧ (nextStroke s).prog.queue = s.prog.queue ∧
    (nextStroke s).prog.holds = s.prog.holds ∧ (nextStroke s).prog.arm = s.prog.arm ∧
    (nextStroke s).prog.delay = s.prog.delay ∧ (nextStroke s).prog.tankWet = s.prog.tankWet ∧
    (nextStroke s).prog.soilClass = s.prog.soilClass ∧
    (nextStroke s).prog.phase.map (·.stage) = s.prog.phase.map (·.stage) := by
  simp only [nextStroke]
  repeat' split
  all_goals simp

@[simp] theorem strokeTimedOut_keepsProg (r : Reservoir) (s : State) :
    (strokeTimedOut r s).prog.state = s.prog.state ∧ (strokeTimedOut r s).prog.queue = s.prog.queue := by
  simp only [strokeTimedOut]
  split <;> simp

@[simp] theorem targetReached_keepsProg (s : State) :
    (targetReached s).prog.state = s.prog.state ∧ (targetReached s).prog.queue = s.prog.queue ∧
    (targetReached s).prog.holds = s.prog.holds ∧ (targetReached s).prog.arm = s.prog.arm ∧
    (targetReached s).prog.delay = s.prog.delay ∧ (targetReached s).prog.tankWet = s.prog.tankWet ∧
    (targetReached s).prog.soilClass = s.prog.soilClass ∧
    (targetReached s).prog.phase.map (·.stage) = s.prog.phase.map (·.stage) := by
  simp [targetReached, Function.comp_def]

@[simp] theorem placeHeating_keepsProg (target : Nat) (s : State) :
    (placeHeating target s).prog.state = s.prog.state ∧ (placeHeating target s).prog.queue = s.prog.queue ∧
    (placeHeating target s).prog.holds = s.prog.holds ∧ (placeHeating target s).prog.arm = s.prog.arm ∧
    (placeHeating target s).prog.delay = s.prog.delay ∧ (placeHeating target s).prog.tankWet = s.prog.tankWet ∧
    (placeHeating target s).prog.soilClass = s.prog.soilClass ∧
    (placeHeating target s).prog.phase.map (·.stage) = s.prog.phase.map (·.stage) := by
  simp only [placeHeating]
  repeat' split
  all_goals simp

@[simp] theorem takeSoilSample_keepsProg (x : Turbidity) (s : State) :
    (takeSoilSample x s).prog.state = s.prog.state ∧ (takeSoilSample x s).prog.queue = s.prog.queue ∧
    (takeSoilSample x s).prog.holds = s.prog.holds ∧ (takeSoilSample x s).prog.arm = s.prog.arm ∧
    (takeSoilSample x s).prog.delay = s.prog.delay ∧ (takeSoilSample x s).prog.tankWet = s.prog.tankWet ∧
    (takeSoilSample x s).prog.phase.map (·.stage) = s.prog.phase.map (·.stage) := by
  simp only [takeSoilSample]
  split <;> simp [Function.comp_def]

@[simp] theorem holdingOver_keepsProg (x : Turbidity) (r : PhaseRecord) (s : State) :
    (holdingOver x r s).prog.state = s.prog.state ∧ (holdingOver x r s).prog.queue = s.prog.queue ∧
    (holdingOver x r s).prog.holds = s.prog.holds ∧ (holdingOver x r s).prog.arm = s.prog.arm ∧
    (holdingOver x r s).prog.delay = s.prog.delay ∧ (holdingOver x r s).prog.tankWet = s.prog.tankWet ∧
    (holdingOver x r s).prog.phase.map (·.stage) = s.prog.phase.map (·.stage) := by
  simp only [holdingOver]
  split <;> simp

@[simp] theorem enterHolding_keepsProg (r : PhaseRecord) (s : State) :
    (enterHolding r s).prog.state = s.prog.state ∧ (enterHolding r s).prog.queue = s.prog.queue ∧
    (enterHolding r s).prog.holds = s.prog.holds ∧ (enterHolding r s).prog.arm = s.prog.arm ∧
    (enterHolding r s).prog.delay = s.prog.delay ∧ (enterHolding r s).prog.tankWet = s.prog.tankWet := by
  simp only [enterHolding]
  repeat' split
  all_goals simp

@[simp] theorem enterHeating_keepsProg (r : PhaseRecord) (s : State) :
    (enterHeating r s).prog.state = s.prog.state ∧ (enterHeating r s).prog.queue = s.prog.queue ∧
    (enterHeating r s).prog.holds = s.prog.holds ∧ (enterHeating r s).prog.arm = s.prog.arm ∧
    (enterHeating r s).prog.delay = s.prog.delay ∧ (enterHeating r s).prog.tankWet = s.prog.tankWet := by
  simp only [enterHeating]
  repeat' split
  all_goals simp

@[simp] theorem enterAfterFilling_keepsProg (r : PhaseRecord) (s : State) :
    (enterAfterFilling r s).prog.state = s.prog.state ∧ (enterAfterFilling r s).prog.queue = s.prog.queue ∧
    (enterAfterFilling r s).prog.holds = s.prog.holds ∧ (enterAfterFilling r s).prog.arm = s.prog.arm ∧
    (enterAfterFilling r s).prog.delay = s.prog.delay ∧
    (enterAfterFilling r s).prog.tankWet = s.prog.tankWet := by
  simp only [enterAfterFilling]
  split <;> simp

@[simp] theorem enterDraining_keepsProg (r : PhaseRecord) (s : State) :
    (enterDraining r s).prog.state = s.prog.state ∧ (enterDraining r s).prog.queue = s.prog.queue ∧
    (enterDraining r s).prog.phase = s.prog.phase.map (fun ph => { ph with stage := .draining, stageEnd := none }) ∧
    (enterDraining r s).prog.holds = s.prog.holds ∧ (enterDraining r s).prog.arm = s.prog.arm ∧
    (enterDraining r s).prog.delay = s.prog.delay ∧ (enterDraining r s).prog.tankWet = s.prog.tankWet := by
  simp [enterDraining]

/-! #### The rod and the stages of a DRY phase -/

@[simp] theorem decideOpening_keepsProg (s : State) :
    (decideOpening s).prog.state = s.prog.state ∧ (decideOpening s).prog.queue = s.prog.queue ∧
    (decideOpening s).prog.holds = s.prog.holds ∧ (decideOpening s).prog.arm = s.prog.arm ∧
    (decideOpening s).prog.delay = s.prog.delay ∧ (decideOpening s).prog.tankWet = s.prog.tankWet ∧
    (decideOpening s).prog.phase.map (·.stage) = s.prog.phase.map (·.stage) := by
  simp only [decideOpening]
  repeat' split
  all_goals simp

@[simp] theorem decideUnreferenced_keepsProg (s : State) :
    (decideUnreferenced s).prog.state = s.prog.state ∧ (decideUnreferenced s).prog.queue = s.prog.queue ∧
    (decideUnreferenced s).prog.holds = s.prog.holds ∧ (decideUnreferenced s).prog.arm = s.prog.arm ∧
    (decideUnreferenced s).prog.delay = s.prog.delay ∧ (decideUnreferenced s).prog.tankWet = s.prog.tankWet ∧
    (decideUnreferenced s).prog.phase.map (·.stage) = s.prog.phase.map (·.stage) := by
  simp only [decideUnreferenced]
  repeat' split
  all_goals simp

@[simp] theorem decideRetract_keepsProg (s : State) :
    (decideRetract s).prog.state = s.prog.state ∧ (decideRetract s).prog.queue = s.prog.queue ∧
    (decideRetract s).prog.holds = s.prog.holds ∧ (decideRetract s).prog.arm = s.prog.arm ∧
    (decideRetract s).prog.delay = s.prog.delay ∧ (decideRetract s).prog.tankWet = s.prog.tankWet ∧
    (decideRetract s).prog.phase.map (·.stage) = s.prog.phase.map (·.stage) := by
  simp only [decideRetract]
  repeat' split
  all_goals simp

@[simp] theorem enterDryWait_keepsProg (r : PhaseRecord) (s : State) :
    (enterDryWait r s).prog.state = s.prog.state ∧ (enterDryWait r s).prog.queue = s.prog.queue ∧
    (enterDryWait r s).prog.holds = s.prog.holds ∧ (enterDryWait r s).prog.arm = s.prog.arm ∧
    (enterDryWait r s).prog.delay = s.prog.delay ∧ (enterDryWait r s).prog.tankWet = s.prog.tankWet ∧
    (enterDryWait r s).prog.soilClass = s.prog.soilClass ∧
    (enterDryWait r s).prog.phase.map (·.stage) = s.prog.phase.map (·.stage) := by
  simp only [enterDryWait]
  repeat' split
  all_goals simp

@[simp] theorem enterOpening_keepsProg (s : State) :
    (enterOpening s).prog.state = s.prog.state ∧ (enterOpening s).prog.queue = s.prog.queue ∧
    (enterOpening s).prog.holds = s.prog.holds ∧ (enterOpening s).prog.arm = s.prog.arm ∧
    (enterOpening s).prog.delay = s.prog.delay ∧ (enterOpening s).prog.tankWet = s.prog.tankWet ∧
    (enterOpening s).prog.phase.map (·.stage) = s.prog.phase.map (fun _ => .opening) := by
  simp only [enterOpening]
  split <;> simp [Function.comp_def]

@[simp] theorem enterAiring_keepsProg (r : PhaseRecord) (s : State) :
    (enterAiring r s).prog.state = s.prog.state ∧ (enterAiring r s).prog.queue = s.prog.queue ∧
    (enterAiring r s).prog.holds = s.prog.holds ∧ (enterAiring r s).prog.arm = s.prog.arm ∧
    (enterAiring r s).prog.delay = s.prog.delay ∧ (enterAiring r s).prog.tankWet = s.prog.tankWet ∧
    (enterAiring r s).prog.phase.map (·.stage) = s.prog.phase.map (fun _ => .airing) := by
  simp only [enterAiring]
  split <;> simp [Function.comp_def]

@[simp] theorem enterRetracting_keepsProg (s : State) :
    (enterRetracting s).prog.state = s.prog.state ∧ (enterRetracting s).prog.queue = s.prog.queue ∧
    (enterRetracting s).prog.holds = s.prog.holds ∧ (enterRetracting s).prog.arm = s.prog.arm ∧
    (enterRetracting s).prog.delay = s.prog.delay ∧ (enterRetracting s).prog.tankWet = s.prog.tankWet ∧
    (enterRetracting s).prog.phase.map (·.stage) = s.prog.phase.map (fun _ => .retracting) := by
  simp [enterRetracting, Function.comp_def]

/-! #### Begin and end of a phase, `finish` -/

@[simp] theorem beginPhase_keepsProg (first : Bool) (s : State) :
    (beginPhase first s).prog.state = s.prog.state ∧ (beginPhase first s).prog.queue = s.prog.queue ∧
    (beginPhase first s).prog.arm = s.prog.arm ∧ (beginPhase first s).prog.delay = s.prog.delay ∧
    (beginPhase first s).prog.tankWet = s.prog.tankWet ∧
    (beginPhase first s).prog.soilClass = s.prog.soilClass := by
  simp only [beginPhase]
  repeat' split
  all_goals simp

@[simp] theorem nextOrEnd_keepsProg (s : State) :
    (nextOrEnd s).prog.queue = s.prog.queue ∧ (nextOrEnd s).prog.arm = s.prog.arm ∧
    (nextOrEnd s).prog.delay = s.prog.delay ∧ (nextOrEnd s).prog.tankWet = s.prog.tankWet ∧
    (nextOrEnd s).prog.soilClass = s.prog.soilClass := by
  simp only [nextOrEnd]
  split <;> simp

@[simp] theorem endPhase_keepsProg (e : PhaseEnding) (s : State) :
    (endPhase e s).prog.state = s.prog.state ∧ (endPhase e s).prog.arm = s.prog.arm ∧
    (endPhase e s).prog.delay = s.prog.delay ∧ (endPhase e s).prog.tankWet = s.prog.tankWet ∧
    (endPhase e s).prog.soilClass = s.prog.soilClass := by
  simp only [endPhase]
  repeat' split
  all_goals simp

@[simp] theorem leaveStage_keepsProg (r : PhaseRecord) (ph : RunningPhase) (e : StageEnd) (s : State) :
    (leaveStage r ph e s).prog.arm = s.prog.arm ∧ (leaveStage r ph e s).prog.delay = s.prog.delay := by
  simp only [leaveStage]
  split <;> simp

@[simp] theorem stepStage_keepsProg (s : State) :
    (stepStage s).prog.arm = s.prog.arm ∧ (stepStage s).prog.delay = s.prog.delay := by
  simp only [stepStage]
  repeat' split
  all_goals simp

@[simp] theorem runStages_keepsProg (n : Nat) (s : State) :
    (runStages n s).prog.arm = s.prog.arm ∧ (runStages n s).prog.delay = s.prog.delay := by
  induction n generalizing s with
  | zero => simp [runStages]
  | succ n ih =>
    simp only [runStages]
    repeat' split
    all_goals simp [ih]

@[simp] theorem watchDoor_keepsProg (s : State) :
    (watchDoor s).prog.state = s.prog.state ∧ (watchDoor s).prog.queue = s.prog.queue ∧
    (watchDoor s).prog.phase = s.prog.phase ∧ (watchDoor s).prog.arm = s.prog.arm ∧
    (watchDoor s).prog.delay = s.prog.delay ∧ (watchDoor s).prog.tankWet = s.prog.tankWet ∧
    (watchDoor s).prog.soilClass = s.prog.soilClass ∧ (watchDoor s).prog.retry = s.prog.retry := by
  simp only [watchDoor]
  repeat' split
  all_goals simp

@[simp] theorem placeDemands_keepsProg (s : State) :
    (placeDemands s).prog.state = s.prog.state ∧ (placeDemands s).prog.queue = s.prog.queue ∧
    (placeDemands s).prog.holds = s.prog.holds ∧ (placeDemands s).prog.arm = s.prog.arm ∧
    (placeDemands s).prog.delay = s.prog.delay ∧ (placeDemands s).prog.tankWet = s.prog.tankWet ∧
    (placeDemands s).prog.soilClass = s.prog.soilClass ∧
    (placeDemands s).prog.phase.map (·.stage) = s.prog.phase.map (·.stage) := by
  simp only [placeDemands]
  repeat' split
  all_goals simp

@[simp] theorem followOutputs_keepsProg (s : State) :
    (followOutputs s).prog.state = s.prog.state ∧ (followOutputs s).prog.queue = s.prog.queue ∧
    (followOutputs s).prog.phase = s.prog.phase ∧ (followOutputs s).prog.holds = s.prog.holds ∧
    (followOutputs s).prog.arm = s.prog.arm ∧ (followOutputs s).prog.delay = s.prog.delay ∧
    (followOutputs s).prog.soilClass = s.prog.soilClass := by
  obtain ⟨-, -, -, hprog, -⟩ := followOutputs_leaves s
  rw [hprog]
  simp

@[simp] theorem finish_keepsProg (s : State) :
    (finish s).prog.arm = s.prog.arm ∧ (finish s).prog.delay = s.prog.delay := by
  simp [finish]

@[simp] theorem wakeUp_keepsProg (cause : WakeCause) (s : State) :
    (wakeUp cause s).prog.arm = s.prog.arm ∧ (wakeUp cause s).prog.delay = s.prog.delay := by
  simp only [wakeUp]
  split <;> simp

/-! #### Motions that end, readings -/

@[simp] theorem dryMotionEnd_keepsProg (m : Motion) (o : Outcome) (s : State) :
    (dryMotionEnd m o s).prog.state = s.prog.state ∧ (dryMotionEnd m o s).prog.queue = s.prog.queue ∧
    (dryMotionEnd m o s).prog.phase.map (·.stage) = s.prog.phase.map (·.stage) := by
  simp only [dryMotionEnd]
  repeat' split
  all_goals simp

@[simp] theorem endMotion_keepsProg (o : Outcome) (s : State) :
    (endMotion o s).prog.state = s.prog.state ∧ (endMotion o s).prog.queue = s.prog.queue := by
  simp only [endMotion]
  split <;> simp

@[simp] theorem endReferenced_keepsProg (s : State) :
    (endReferenced s).prog.state = s.prog.state ∧ (endReferenced s).prog.queue = s.prog.queue := by
  simp only [endReferenced]
  split <;> simp

@[simp] theorem failApproach_keepsProg (s : State) :
    (failApproach s).prog.state = s.prog.state ∧ (failApproach s).prog.queue = s.prog.queue := by
  simp only [failApproach]
  repeat' split
  all_goals simp

@[simp] theorem encoderEnd_keepsProg (s : State) :
    (encoderEnd s).prog.state = s.prog.state ∧ (encoderEnd s).prog.queue = s.prog.queue := by
  simp only [encoderEnd]
  repeat' split
  all_goals simp

@[simp] theorem stuckEnd_keepsProg (s : State) :
    (stuckEnd s).prog.state = s.prog.state ∧ (stuckEnd s).prog.queue = s.prog.queue := by
  simp only [stuckEnd]
  repeat' split
  all_goals simp

@[simp] theorem validStep_keepsProg (a b : Bool) (s : State) :
    (validStep a b s).prog.state = s.prog.state ∧ (validStep a b s).prog.queue = s.prog.queue := by
  simp only [validStep]
  repeat' split
  all_goals simp

@[simp] theorem invalidStep_keepsProg (a b : Bool) (s : State) :
    (invalidStep a b s).prog.state = s.prog.state ∧ (invalidStep a b s).prog.queue = s.prog.queue := by
  simp only [invalidStep]
  repeat' split
  all_goals simp

@[simp] theorem heatingReading_keepsProg (target w : Nat) (s : State) :
    (heatingReading target w s).prog.state = s.prog.state ∧
    (heatingReading target w s).prog.queue = s.prog.queue := by
  simp only [heatingReading]
  repeat' split
  all_goals simp

@[simp] theorem takeWorking_keepsProg (w : Nat) (s : State) :
    (takeWorking w s).prog.state = s.prog.state ∧ (takeWorking w s).prog.queue = s.prog.queue := by
  simp only [takeWorking]
  repeat' split
  all_goals simp

@[simp] theorem loseHeater_keepsProg (s : State) :
    (loseHeater s).prog.state = s.prog.state ∧ (loseHeater s).prog.queue = s.prog.queue := by
  simp only [loseHeater]
  split <;> simp

@[simp] theorem riseMiss_keepsProg (gain : Int) (s : State) :
    (riseMiss gain s).prog.state = s.prog.state ∧ (riseMiss gain s).prog.queue = s.prog.queue := by
  simp only [riseMiss, countSlow_keeps, missTarget]
  split <;> simp

@[simp] theorem doorActs_keepsProg (closed : Bool) (s : State) :
    (doorActs closed s).prog.state = s.prog.state ∧ (doorActs closed s).prog.queue = s.prog.queue ∧
    (doorActs closed s).prog.holds = s.prog.holds ∧ (doorActs closed s).prog.delay = s.prog.delay ∧
    (doorActs closed s).prog.arm = (closed && s.prog.arm) := by
  simp only [doorActs]
  repeat' split
  all_goals simp_all

/-! #### The softener's reports, drains -/

@[simp] theorem completeDrain_keepsProg (s : State) :
    (completeDrain s).prog.queue = s.prog.queue ∧ (completeDrain s).prog.holds = s.prog.holds ∧
    (completeDrain s).prog.arm = s.prog.arm ∧ (completeDrain s).prog.delay = s.prog.delay := by
  simp only [completeDrain]
  repeat' split
  all_goals simp

@[simp] theorem endExtension_keepsProg (s : State) :
    (endExtension s).prog.queue = s.prog.queue ∧ (endExtension s).prog.holds = s.prog.holds ∧
    (endExtension s).prog.arm = s.prog.arm ∧ (endExtension s).prog.delay = s.prog.delay := by
  simp only [endExtension]
  repeat' split
  all_goals simp

@[simp] theorem afterRegen_keepsProg (aborted : Bool) (s : State) :
    (afterRegen aborted s).prog.queue = s.prog.queue ∧ (afterRegen aborted s).prog.arm = s.prog.arm ∧
    (afterRegen aborted s).prog.delay = s.prog.delay := by
  simp only [afterRegen]
  split <;> simp

@[simp] theorem restore_keepsProg (s : State) :
    (restore s).prog.queue = s.prog.queue ∧ (restore s).prog.arm = s.prog.arm ∧
    (restore s).prog.delay = s.prog.delay := by
  simp [restore]

@[simp] theorem windowClosed_keepsProg (s : State) :
    (windowClosed s).prog.queue = s.prog.queue ∧ (windowClosed s).prog.arm = s.prog.arm ∧
    (windowClosed s).prog.delay = s.prog.delay := by
  simp only [windowClosed]
  repeat' split
  all_goals simp

@[simp] theorem abortRegen_keepsProg (s : State) :
    (abortRegen s).prog.queue = s.prog.queue ∧ (abortRegen s).prog.arm = s.prog.arm ∧
    (abortRegen s).prog.delay = s.prog.delay := by
  simp only [abortRegen]
  split <;> simp

@[simp] theorem softFinal_keepsProg (owner : WindowOwner) (c : Option SoftCounter) (s : State) :
    (softFinal owner c s).prog.queue = s.prog.queue ∧ (softFinal owner c s).prog.arm = s.prog.arm ∧
    (softFinal owner c s).prog.delay = s.prog.delay := by
  simp only [softFinal]
  repeat' split
  all_goals simp

/-- What a taken START or REMOTE START sets of the program controller (R7, R10). -/
@[simp] theorem startCommon_prog (s : State) :
    (startCommon s).prog = { s.prog with arm := false, soilClass := 1 } := by
  simp only [startCommon]
  split <;> simp

@[simp] theorem enterRunning_keepsProg (s : State) :
    (enterRunning s).prog.state = .running ∧ (enterRunning s).prog.queue = s.prog.queue ∧
    (enterRunning s).prog.arm = false ∧ (enterRunning s).prog.delay = none ∧
    (enterRunning s).prog.tankWet = s.prog.tankWet ∧ (enterRunning s).prog.soilClass = s.prog.soilClass := by
  simp [enterRunning]

end Sys2Proof.Machine
end

section
namespace Sys2Proof.Machine

/-! ### O56: the phase queue stays sound

Records enter the queue at one place, QUEUE PHASE, which checks the bound and the tail (R4). Every other operation leaves a
suffix of the queue, and a suffix of a sound queue is sound. -/

/-- The queue of `t` is a suffix of that of `s`: records have left at its head, none has entered. -/
def QueueShrinks (s t : State) : Prop := t.prog.queue <:+ s.prog.queue

theorem QueueShrinks.of_eq {s t : State} (h : t.prog.queue = s.prog.queue) : QueueShrinks s t :=
  ⟨[], h⟩

theorem QueueShrinks.of_nil {s t : State} (h : t.prog.queue = []) : QueueShrinks s t := by
  rw [QueueShrinks, h]
  exact List.nil_suffix

theorem QueueShrinks.trans {s t u : State} (h₁ : QueueShrinks s t) (h₂ : QueueShrinks t u) : QueueShrinks s u :=
  List.IsSuffix.trans h₂ h₁

/-- An operation that shrinks the queue, after one that leaves it. -/
theorem QueueShrinks.after {s u t : State} (h : QueueShrinks u t) (hu : u.prog.queue = s.prog.queue) :
    QueueShrinks s t := (QueueShrinks.of_eq hu).trans h

/-- A suffix of a sound queue is sound (R4). -/
theorem queueSound_of_shrinks {s t : State} (h : QueueShrinks s t) (hs : queueSound s) : queueSound t := by
  obtain ⟨hlen, hdry⟩ := hs
  obtain ⟨front, hq⟩ := h
  have hdrop : ∀ r ∈ t.prog.queue.dropLast, r ∈ s.prog.queue.dropLast := by
    intro r hr
    have hne : t.prog.queue ≠ [] := by rintro e; simp [e] at hr
    rw [← hq, List.dropLast_append_of_ne_nil hne]
    exact List.mem_append_right front hr
  refine ⟨?_, fun r hr => hdry r (hdrop r hr)⟩
  have := congrArg List.length hq
  rw [List.length_append] at this
  omega

/-! #### The operations that end a phase or the program -/

theorem endPhase_shrinks (e : PhaseEnding) (s : State) : QueueShrinks s (endPhase e s) := by
  cases hp : s.prog.phase with
  | none => exact .of_eq (by simp [endPhase, hp])
  | some ph =>
    cases hq : s.prog.queue with
    | nil => exact .of_eq (by simp [endPhase, hp, hq])
    | cons r rest =>
      obtain ⟨hrest, -⟩ := endPhase_spec s e ph r rest hp hq
      rw [QueueShrinks, hrest, hq]
      exact List.suffix_cons r rest

theorem nextOrEnd_endPhase_shrinks (e : PhaseEnding) (s : State) : QueueShrinks s (nextOrEnd (endPhase e s)) :=
  (endPhase_shrinks e s).trans (.of_eq (by simp))

theorem leaveStage_shrinks (r : PhaseRecord) (ph : RunningPhase) (e : StageEnd) (s : State) :
    QueueShrinks s (leaveStage r ph e s) := by
  simp only [leaveStage]
  split
  case h_5 => exact (nextOrEnd_endPhase_shrinks _ _).after (by simp)
  case h_9 => exact nextOrEnd_endPhase_shrinks _ _
  all_goals exact .of_eq (by simp)

theorem stepStage_shrinks (s : State) : QueueShrinks s (stepStage s) := by
  simp only [stepStage]
  repeat' split
  case isFalse => exact leaveStage_shrinks _ _ _ _
  all_goals exact .of_eq rfl

theorem runStages_shrinks (n : Nat) (s : State) : QueueShrinks s (runStages n s) := by
  induction n generalizing s with
  | zero => exact .of_eq rfl
  | succ n ih =>
    simp only [runStages]
    repeat' split
    case isTrue => exact (stepStage_shrinks s).trans (ih _)
    all_goals exact .of_eq rfl

theorem finish_shrinks (s : State) : QueueShrinks s (finish s) := by
  have hdoor : QueueShrinks s (watchDoor s) := .of_eq (by simp)
  have hstages := hdoor.trans (runStages_shrinks stageFuel _)
  have hplaced : QueueShrinks s (placeDemands (runStages stageFuel (watchDoor s))) := hstages.trans (.of_eq (by simp))
  have hagain := hplaced.trans (runStages_shrinks stageFuel _)
  exact hagain.trans (.of_eq (by simp [finish]))

/-- An event whose operation leaves the queue shrinks it at most in `finish`. -/
theorem finish_shrinks_of_eq {s u : State} (h : u.prog.queue = s.prog.queue) : QueueShrinks s (finish u) :=
  (finish_shrinks u).after h

theorem wakeUp_shrinks (cause : WakeCause) (s : State) : QueueShrinks s (wakeUp cause s) := by
  simp only [wakeUp]
  split
  · exact finish_shrinks_of_eq (by simp)
  · exact .of_eq rfl

theorem faultProgram_shrinks (s : State) : QueueShrinks s (faultProgram s) := by
  by_cases h : s.prog.state = .running
  · simp only [faultProgram, h, beq_self_eq_true, if_true]
    exact (endPhase_shrinks _ _).after (by simp)
  · exact .of_eq (by simp [faultProgram, h])

theorem faultAndClose_shrinks (s : State) : QueueShrinks s (faultAndClose s) := by
  simp only [faultAndClose]
  split
  · exact (faultProgram_shrinks s).trans (.of_eq (by simp))
  · exact faultProgram_shrinks s

theorem cancelQueue_queue (q : List PhaseRecord) (s : State) : (cancelQueue q s).prog.queue = [] := by
  induction q generalizing s with
  | nil => rfl
  | cons r rest ih => exact ih _

theorem cancelProgram_queue (s : State) : (cancelProgram s).prog.queue = [] := by
  simp only [cancelProgram]
  repeat' split
  all_goals simp [enterCancelling, cancelQueue_queue]

theorem resetPart_queue (s : State) : (resetPart s).prog.queue = [] := by
  simp only [resetPart]
  repeat' split
  all_goals simp [loadImage, Program.reset]

theorem completeWrite_shrinks (s : State) : QueueShrinks s (completeWrite s) := by
  simp only [completeWrite]
  repeat' split
  case h_2.isFalse.isTrue => exact .of_nil (resetPart_queue _)
  all_goals exact .of_eq (by simp)

/-! #### Requests -/

/-- A request keeps the queue sound when its owner does: a wake and the answer do. -/
theorem serve_queueSound {owner : State → State × Reply} (howner : ∀ u, queueSound u → queueSound (owner u).1)
    (p : Port) (perm : Permission) (s : State) (hs : queueSound s) : queueSound (serve p perm owner s) := by
  have hanswer : ∀ r u, queueSound u → queueSound (answer p r u) := fun r u hu =>
    queueSound_of_shrinks (.of_eq (by simp)) hu
  simp only [serve]
  split
  · exact hanswer _ _ hs
  split
  · exact hanswer _ _ hs
  split
  · exact hanswer _ _ hs
  refine hanswer _ _ (howner _ ?_)
  split
  · exact queueSound_of_shrinks (wakeUp_shrinks _ _) hs
  · exact hs

theorem serve_queueSound_of_shrinks {owner : State → State × Reply} (howner : ∀ u, QueueShrinks u (owner u).1)
    (p : Port) (perm : Permission) (s : State) (hs : queueSound s) : queueSound (serve p perm owner s) :=
  serve_queueSound (fun u hu => queueSound_of_shrinks (howner u) hu) p perm s hs

/-- The one operation by which a record enters the queue: below the bound, and behind no DRY record (R2, R4). -/
theorem ownerQueuePhase_queueSound (f : PhaseFields) (s : State) (hs : queueSound s) :
    queueSound (ownerQueuePhase f s).1 := by
  simp only [ownerQueuePhase]
  split
  · exact hs
  split
  · exact hs
  split
  · exact hs
  rename_i r clamped _ hfull
  split
  · exact hs
  rename_i htail
  obtain ⟨-, hdry⟩ := hs
  have hroom : (s.prog.queue ++ [r]).length ≤ 8 := by
    rw [List.length_append, List.length_singleton]
    exact Nat.lt_of_not_le hfull
  refine ⟨hroom, fun x hx => ?_⟩
  have hx : x ∈ s.prog.queue := by simpa using hx
  rcases List.eq_nil_or_concat s.prog.queue with hnil | ⟨front, last, hq⟩
  · simp [hnil] at hx
  rw [List.concat_eq_append] at hq
  have hlast : last.kind ≠ .dry := by simpa [dryTail, hq] using htail
  rw [hq] at hx hdry
  rcases List.mem_append.1 hx with hfront | hend
  · exact hdry x (by simpa using hfront)
  · rw [List.mem_singleton.1 hend]
    exact hlast

/-- A check that fails leaves the queue (R199). -/
theorem QueueShrinks.unless {s : State} {c : Prop} [Decidable c] {r : Reply} {x : State × Reply}
    (h : ¬ c → QueueShrinks s x.1) : QueueShrinks s (if c then (s, r) else x).1 := by
  split
  · exact .of_eq rfl
  · exact h ‹_›

theorem ownerStart_shrinks (delay : Half) (s : State) : QueueShrinks s (ownerStart delay s).1 := by
  refine .unless fun _ => .unless fun _ => .unless fun _ => .unless fun _ => .unless fun _ => ?_
  refine finish_shrinks_of_eq ?_
  split <;> simp

theorem ownerArmRemote_shrinks (s : State) : QueueShrinks s (ownerArmRemote s).1 :=
  .unless fun _ => .unless fun _ => .of_eq rfl

theorem ownerRemoteStart_shrinks (s : State) : QueueShrinks s (ownerRemoteStart s).1 :=
  .unless fun _ => .unless fun _ => .unless fun _ => .unless fun _ => .unless fun _ => finish_shrinks_of_eq (by simp)

theorem ownerPause_shrinks (s : State) : QueueShrinks s (ownerPause s).1 :=
  .unless fun _ => finish_shrinks_of_eq (by simp)

theorem ownerResume_shrinks (s : State) : QueueShrinks s (ownerResume s).1 := by
  refine .unless fun _ => finish_shrinks_of_eq ?_
  split <;> simp [retryNow]

theorem ownerCancel_shrinks (s : State) : QueueShrinks s (ownerCancel s).1 :=
  .unless fun _ => QueueShrinks.trans (.of_nil (cancelProgram_queue s)) (finish_shrinks _)

theorem ownerRegenerate_shrinks (s : State) : QueueShrinks s (ownerRegenerate s).1 := by
  simp only [ownerRegenerate]
  split <;> exact .of_eq rfl

theorem ownerSetHardness_shrinks (p : Port) (h : Byte) (s : State) : QueueShrinks s (ownerSetHardness p h s).1 := by
  refine .of_eq ?_
  simp only [ownerSetHardness]
  split <;> simp

theorem ownerSetRinseLevel_shrinks (p : Port) (l : Byte) (s : State) :
    QueueShrinks s (ownerSetRinseLevel p l s).1 := by
  refine .of_eq ?_
  simp only [ownerSetRinseLevel]
  split <;> simp

theorem ownerEnterQuiet_shrinks (s : State) : QueueShrinks s (ownerEnterQuiet s).1 :=
  .unless fun _ => .unless fun _ => .unless fun _ => .unless fun _ => .unless fun _ => finish_shrinks_of_eq (by simp)

theorem ownerTakeHold_shrinks (s : State) : QueueShrinks s (ownerTakeHold s).1 := by
  simp only [ownerTakeHold]
  split <;> exact .of_eq rfl

theorem leaveService_shrinks (s : State) : QueueShrinks s (leaveService s) := by
  simp only [leaveService]
  split
  · exact finish_shrinks_of_eq (by simp)
  · exact .of_eq rfl

theorem releaseHold_shrinks (s : State) : QueueShrinks s (releaseHold s) := by
  simp only [releaseHold]
  split
  · exact (leaveService_shrinks _).after (by simp)
  · exact .of_eq rfl

theorem ownerEnterService_shrinks (s : State) : QueueShrinks s (ownerEnterService s).1 :=
  .unless fun _ => .unless fun _ => .unless fun _ => .unless fun _ => .unless fun _ => .of_eq rfl

theorem ownerOverrideOutput_shrinks (output value : Byte) (s : State) :
    QueueShrinks s (ownerOverrideOutput output value s).1 :=
  .unless fun _ => .unless fun _ => finish_shrinks_of_eq (by simp)

theorem ownerMoveRod_shrinks (slot : Byte) (s : State) : QueueShrinks s (ownerMoveRod slot s).1 :=
  .unless fun _ => .unless fun _ => .unless fun _ => finish_shrinks_of_eq (by simp)

theorem ownerReferenceRod_shrinks (s : State) : QueueShrinks s (ownerReferenceRod s).1 :=
  .unless fun _ => .unless fun _ => finish_shrinks_of_eq (by simp)

theorem changePolarity_shrinks (s : State) : QueueShrinks s (changePolarity s) := by
  refine finish_shrinks_of_eq ?_
  split <;> simp

theorem calEffect_shrinks (item : Nat) (s : State) : QueueShrinks s (calEffect item s) := by
  simp only [calEffect]
  split
  case h_8 => exact finish_shrinks s
  case h_9 => exact changePolarity_shrinks s
  case h_10 => exact finish_shrinks s
  all_goals exact .of_eq (by simp)

theorem ownerWriteCalibration_shrinks (p : Port) (item slot : Byte) (value : Word32) (s : State) :
    QueueShrinks s (ownerWriteCalibration p item slot value s).1 := by
  simp only [ownerWriteCalibration]
  split
  · exact .of_eq rfl
  dsimp only
  split
  · exact .of_eq rfl
  · rename_i v _ _ _
    have heffect : QueueShrinks s (calEffect item.toNat (s.onCal fun c => calStore c item.toNat slot.toNat v)) :=
      (calEffect_shrinks _ _).after (by simp)
    exact heffect.trans (.of_eq (by simp))

theorem ownerClearFaults_shrinks (s : State) : QueueShrinks s (ownerClearFaults s).1 := by
  refine finish_shrinks_of_eq ?_
  split <;> simp

theorem ownerRestart_shrinks (mark : Byte) (s : State) : QueueShrinks s (ownerRestart mark s).1 :=
  .unless fun _ => .of_eq (by simp)

theorem serveRestart_queueSound (p : Port) (mark : Byte) (s : State) (hs : queueSound s) :
    queueSound (serveRestart p mark s) := by
  have hserve := serve_queueSound_of_shrinks (ownerRestart_shrinks mark) p .serviceOnly s hs
  simp only [serveRestart]
  split
  · exact queueSound_of_shrinks (.of_nil (resetPart_queue _)) hserve
  · exact hserve

/-- Every request of Table 11-4 keeps the queue sound. -/
theorem serveRequest_queueSound (p : Port) (r : Request) (s : State) (hs : queueSound s) :
    queueSound (serveRequest p r s) := by
  cases r with
  | readStatus page part => exact serve_queueSound_of_shrinks (fun _ => .of_eq rfl) _ _ _ hs
  | readRecord page part => exact serve_queueSound_of_shrinks (fun _ => .of_eq rfl) _ _ _ hs
  | readResults n => exact serve_queueSound_of_shrinks (fun _ => .of_eq rfl) _ _ _ hs
  | readNotices => exact serve_queueSound_of_shrinks (fun _ => .of_eq rfl) _ _ _ hs
  | readFaults => exact serve_queueSound_of_shrinks (fun _ => .of_eq rfl) _ _ _ hs
  | readPosition part => exact serve_queueSound_of_shrinks (fun _ => .of_eq rfl) _ _ _ hs
  | queuePhase f => exact serve_queueSound (ownerQueuePhase_queueSound f) _ _ _ hs
  | start delay => exact serve_queueSound_of_shrinks (ownerStart_shrinks delay) _ _ _ hs
  | armRemote => exact serve_queueSound_of_shrinks ownerArmRemote_shrinks _ _ _ hs
  | disarmRemote => exact serve_queueSound_of_shrinks (fun _ => .of_eq rfl) _ _ _ hs
  | remoteStart => exact serve_queueSound_of_shrinks ownerRemoteStart_shrinks _ _ _ hs
  | pause => exact serve_queueSound_of_shrinks ownerPause_shrinks _ _ _ hs
  | resume => exact serve_queueSound_of_shrinks ownerResume_shrinks _ _ _ hs
  | cancel => exact serve_queueSound_of_shrinks ownerCancel_shrinks _ _ _ hs
  | regenerate => exact serve_queueSound_of_shrinks ownerRegenerate_shrinks _ _ _ hs
  | setHardness h => exact serve_queueSound_of_shrinks (ownerSetHardness_shrinks p h) _ _ _ hs
  | setRinseLevel l => exact serve_queueSound_of_shrinks (ownerSetRinseLevel_shrinks p l) _ _ _ hs
  | ackNotices => exact serve_queueSound_of_shrinks (fun _ => .of_eq rfl) _ _ _ hs
  | setNoticeMask kinds => exact serve_queueSound_of_shrinks (fun _ => .of_eq rfl) _ _ _ hs
  | enterQuiet => exact serve_queueSound_of_shrinks ownerEnterQuiet_shrinks _ _ _ hs
  | setWakeSources x => exact serve_queueSound_of_shrinks (fun _ => .of_eq rfl) _ _ _ hs
  | takeHold => exact serve_queueSound_of_shrinks ownerTakeHold_shrinks _ _ _ hs
  | releaseHold => exact serve_queueSound_of_shrinks releaseHold_shrinks _ _ _ hs
  | enterService => exact serve_queueSound_of_shrinks ownerEnterService_shrinks _ _ _ hs
  | leaveService => exact serve_queueSound_of_shrinks leaveService_shrinks _ _ _ hs
  | overrideOutput o v => exact serve_queueSound_of_shrinks (ownerOverrideOutput_shrinks o v) _ _ _ hs
  | moveRod n => exact serve_queueSound_of_shrinks (ownerMoveRod_shrinks n) _ _ _ hs
  | referenceRod => exact serve_queueSound_of_shrinks ownerReferenceRod_shrinks _ _ _ hs
  | writeCalibration i n v => exact serve_queueSound_of_shrinks (ownerWriteCalibration_shrinks p i n v) _ _ _ hs
  | clearFaults => exact serve_queueSound_of_shrinks ownerClearFaults_shrinks _ _ _ hs
  | storeNow => exact serve_queueSound_of_shrinks (fun u => .of_eq (by simp [ownerStoreNow])) _ _ _ hs
  | restart m => exact serveRestart_queueSound p m s hs

theorem takeFrame_queueSound (p : Port) (body : List Byte) (s : State) (hs : queueSound s) :
    queueSound (takeFrame p body s) := by
  simp only [takeFrame]
  repeat' split
  case h_3 => exact serveRequest_queueSound p _ s hs
  all_goals exact queueSound_of_shrinks (.of_eq (by simp)) hs

theorem takeBuffered_queueSound (p : Port) (s : State) (hs : queueSound s) : queueSound (takeBuffered p s) := by
  simp only [takeBuffered]
  split
  · exact takeFrame_queueSound p _ _ (queueSound_of_shrinks (.of_eq (by simp)) hs)
  · exact hs

theorem byteReceived_queueSound (p : Port) (b : Byte) (stop : Bool) (s : State) (hs : queueSound s) :
    queueSound (byteReceived p b stop s) := by
  simp only [byteReceived]
  repeat' split
  case h_2 => exact takeBuffered_queueSound p _ (queueSound_of_shrinks (.of_eq (by simp)) hs)
  all_goals exact queueSound_of_shrinks (.of_eq (by simp)) hs

theorem answerSent_queueSound (p : Port) (s : State) (hs : queueSound s) : queueSound (answerSent p s) := by
  simp only [answerSent]
  split
  · exact hs
  · exact takeBuffered_queueSound p _ (queueSound_of_shrinks (.of_eq (by simp)) hs)

/-! #### Events -/

theorem silentUpdate_shrinks (i : SwitchInput) (v : Bool) (s : State) : QueueShrinks s (silentUpdate i v s) := by
  simp only [silentUpdate]
  split
  case h_1 | h_2 | h_3 => exact finish_shrinks_of_eq (by simp)
  all_goals exact .of_eq (by simp)

/-- A delivered reading shrinks the queue at most as its owner does (R153, R154). -/
theorem deliver_shrinks {act : State → State} (hact : ∀ u, QueueShrinks u (act u)) (i : SwitchInput) (v : Bool)
    (s : State) : QueueShrinks s (deliver i v act s) := by
  simp only [deliver]
  repeat' split
  · exact .of_eq rfl
  · exact silentUpdate_shrinks i v s
  · exact (hact _).after (by simp)

theorem doorChange_shrinks (closed : Bool) (s : State) : QueueShrinks s (doorChange closed s) := by
  simp only [doorChange]
  repeat' split
  · exact .of_eq rfl
  · exact silentUpdate_shrinks _ _ s
  · exact (wakeUp_shrinks .door s).trans (finish_shrinks_of_eq (by simp))
  · exact finish_shrinks_of_eq (by simp)

theorem leakFaults_shrinks (s : State) : QueueShrinks s (leakFaults s) := by
  simp only [leakFaults]
  split
  case h_1 | h_2 | h_3 => exact faultProgram_shrinks s
  all_goals exact .of_eq rfl

theorem leakOnset_shrinks (s : State) : QueueShrinks s (leakOnset s) := by
  simp only [leakOnset]
  split
  · exact .of_eq rfl
  · refine (wakeUp_shrinks .leak s).trans (QueueShrinks.trans ?_ (finish_shrinks_of_eq (abortRegen_keepsProg _).1))
    exact (leakFaults_shrinks _).after (by simp)

/-- What the start delay's end does on the part as it is after the wake (R8). -/
def delayOver (s : State) : State :=
  if delayConditions s then finish (enterRunning s)
  else raiseAll .startRefused (s.onProg fun p => { p with state := .ready, delay := none })

/-- The start delay's expiry wakes the part first when DELAY is enabled (R8, spec/08 R169). -/
theorem startDelayExpiry_eq (s : State) :
    startDelayExpiry s = if s.prog.state = .delayed ∧ s.prog.delay.isSome = true then
      delayOver (if s.sup.wake.delay then wakeUp .delay s else s) else s := rfl

theorem delayOver_shrinks (s : State) : QueueShrinks s (delayOver s) := by
  simp only [delayOver]
  split
  · exact finish_shrinks_of_eq (by simp)
  · exact .of_eq (by simp)

theorem startDelayExpiry_shrinks (s : State) : QueueShrinks s (startDelayExpiry s) := by
  rw [startDelayExpiry_eq]
  split
  · refine QueueShrinks.trans ?_ (delayOver_shrinks _)
    split
    · exact wakeUp_shrinks _ _
    · exact .of_eq rfl
  · exact .of_eq rfl

theorem setInletLeak_shrinks (s : State) : QueueShrinks s (setInletLeak s) := by
  simp only [setInletLeak]
  split
  · exact (faultAndClose_shrinks _).after (by simp)
  · exact .of_eq (by simp)

theorem unattributedPulse_shrinks (s : State) : QueueShrinks s (unattributedPulse s) := by
  simp only [unattributedPulse]
  split
  · exact (setInletLeak_shrinks _).after (by simp)
  · exact .of_eq (by simp)

theorem servicePulse_shrinks (s : State) : QueueShrinks s (servicePulse s) := by
  simp only [servicePulse]
  repeat' split
  case isTrue => exact .of_eq (by simp)
  all_goals exact unattributedPulse_shrinks s

theorem keptPulse_shrinks (win : SettleWindow) (r : FillRecord) (s : State) : QueueShrinks s (keptPulse win r s) := by
  simp only [keptPulse]
  split
  · exact .of_eq (by simp)
  · exact unattributedPulse_shrinks s

theorem windowPulse_shrinks (win : SettleWindow) (s : State) : QueueShrinks s (windowPulse win s) := by
  cases hk : win.kept with
  | some r => simpa [windowPulse, hk] using keptPulse_shrinks win r s
  | none =>
    cases ho : win.owner with
    | service => simpa [windowPulse, hk, ho] using servicePulse_shrinks s
    | wash => exact .of_eq (by simp only [windowPulse, hk, ho]; split <;> simp)
    | brine => exact .of_eq (by simp [windowPulse, hk, ho])
    | rinse => exact .of_eq (by simp [windowPulse, hk, ho])

theorem flowPulse_shrinks (s : State) : QueueShrinks s (flowPulse s) := by
  refine QueueShrinks.trans ?_ (finish_shrinks _)
  repeat' split
  · exact servicePulse_shrinks s
  · exact .of_eq (by simp)
  · exact windowPulse_shrinks _ s
  · exact unattributedPulse_shrinks s

theorem settleExpiry_shrinks (s : State) : QueueShrinks s (settleExpiry s) := by
  simp only [settleExpiry]
  split
  · exact .of_eq rfl
  · exact finish_shrinks_of_eq (by simp)

theorem washStall_shrinks (s : State) : QueueShrinks s (washStall s) := by
  simp only [washStall]
  split
  · exact .of_eq (by simp)
  · exact (faultAndClose_shrinks _).after (by simp)

theorem fillStall_shrinks (s : State) : QueueShrinks s (fillStall s) := by
  simp only [fillStall]
  split
  · exact .of_eq rfl
  split
  · exact .of_eq rfl
  refine QueueShrinks.trans ?_ (finish_shrinks _)
  split
  · exact washStall_shrinks s
  · exact .of_eq (by simp)
  · exact .of_eq (by simp)

theorem drainBlocked_shrinks (s : State) : QueueShrinks s (drainBlocked s) := by
  simp only [drainBlocked]
  split
  · refine QueueShrinks.trans ?_ (finish_shrinks _)
    exact (faultAndClose_shrinks _).after (by simp)
  · exact .of_eq rfl

/-- An event under its condition: its operation leaves the queue, `finish` may shrink it. -/
theorem QueueShrinks.ifFinish {s u : State} {c : Prop} [Decidable c] (h : u.prog.queue = s.prog.queue) :
    QueueShrinks s (if c then finish u else s) := by
  split
  · exact finish_shrinks_of_eq h
  · exact .of_eq rfl

theorem encoderEvent_shrinks (a b : Bool) (s : State) : QueueShrinks s (encoderEvent a b s) := by
  simp only [encoderEvent]
  repeat' split
  · exact .of_eq rfl
  · exact finish_shrinks_of_eq (by simp)
  · exact finish_shrinks_of_eq (by simp)

theorem motionStall_shrinks (s : State) : QueueShrinks s (motionStall s) := by
  simp only [motionStall]
  split
  · split
    · exact .of_eq rfl
    · refine finish_shrinks_of_eq ?_
      repeat' split
      all_goals simp
  · exact .of_eq rfl

theorem settleTimerExpiry_shrinks (s : State) : QueueShrinks s (settleTimerExpiry s) := by
  simp only [settleTimerExpiry]
  split
  · exact .ifFinish (by simp)
  · exact .of_eq rfl

theorem holdExpiry_shrinks (x : Turbidity) (s : State) : QueueShrinks s (holdExpiry x s) := by
  simp only [holdExpiry]
  split
  · exact .ifFinish (by simp)
  · exact .of_eq rfl

theorem riseExpiry_shrinks (s : State) : QueueShrinks s (riseExpiry s) := by
  simp only [riseExpiry]
  repeat' split
  case isFalse => exact finish_shrinks_of_eq (by simp)
  all_goals exact .of_eq rfl

theorem drainTailExpiry_shrinks (s : State) : QueueShrinks s (drainTailExpiry s) := by
  refine .ifFinish ?_
  split <;> simp

theorem diverterStall_shrinks (s : State) : QueueShrinks s (diverterStall s) := by
  simp only [diverterStall]
  repeat' split
  · exact .of_eq rfl
  · exact finish_shrinks_of_eq (by simp)
  · exact .of_eq rfl

theorem temperatureReading_shrinks (halfDegrees : Int) (s : State) :
    QueueShrinks s (temperatureReading halfDegrees s) := by
  refine finish_shrinks_of_eq ?_
  split <;> simp

theorem flushEntry_shrinks (s : State) : QueueShrinks s (flushEntry s) := by
  simp only [flushEntry]
  split
  · exact finish_shrinks_of_eq (by simp)
  · exact .of_eq rfl

theorem strokePulse_shrinks (r : Reservoir) (s : State) : QueueShrinks s (strokePulse r s) := by
  simp only [strokePulse]
  repeat' split
  · exact finish_shrinks_of_eq (by simp [endRunOut])
  · exact finish_shrinks_of_eq (by simp [endRunOut])
  · exact .of_eq (by simp)
  · exact .of_eq (by simp)

theorem strokeTimeout_shrinks (r : Reservoir) (s : State) : QueueShrinks s (strokeTimeout r s) := by
  simp only [strokeTimeout]
  repeat' split
  · exact .of_eq rfl
  · exact finish_shrinks_of_eq (by simp [endRunOut])
  · exact finish_shrinks_of_eq (by simp)
  · exact .of_eq rfl

theorem capChange_shrinks (r : Reservoir) (isOpen : Bool) (s : State) : QueueShrinks s (capChange r isOpen s) :=
  deliver_shrinks (fun u => .of_eq (by split <;> simp)) _ _ s

theorem lowChange_shrinks (r : Reservoir) (low : Bool) (s : State) : QueueShrinks s (lowChange r low s) := by
  refine deliver_shrinks (fun u => .of_eq ?_) _ _ s
  split
  · simp
  · dsimp only
    split <;> simp

theorem saltChange_shrinks (noSalt : Bool) (s : State) : QueueShrinks s (saltChange noSalt s) :=
  deliver_shrinks (fun u => .of_eq (by split <;> simp)) _ _ s

theorem homeChange_shrinks (closed : Bool) (s : State) : QueueShrinks s (homeChange closed s) :=
  deliver_shrinks (fun u => finish_shrinks_of_eq (by split <;> simp)) _ _ s

theorem servicePresentChange_shrinks (present : Bool) (s : State) :
    QueueShrinks s (servicePresentChange present s) := by
  refine deliver_shrinks (fun u => ?_) _ _ s
  split
  · exact .of_eq rfl
  · exact (leaveService_shrinks _).after (by simp)

theorem afterRunExpiry_shrinks (s : State) : QueueShrinks s (afterRunExpiry s) := by
  simp only [afterRunExpiry]
  split
  case h_1 => exact finish_shrinks_of_eq (by simp)
  all_goals exact .of_eq rfl

theorem execSilentUpdate_shrinks (i : SwitchInput) (v : Bool) (s : State) :
    QueueShrinks s (if silentChange s i v then silentUpdate i v s else s) := by
  split
  · exact silentUpdate_shrinks i v s
  · exact .of_eq rfl

theorem wakeKeyPress_shrinks (s : State) :
    QueueShrinks s (setDebounced .wakeKey true (if s.sup.wake.key then wakeUp .key s else s)) := by
  have hwake : QueueShrinks s (if s.sup.wake.key then wakeUp .key s else s) := by
    split
    · exact wakeUp_shrinks _ s
    · exact .of_eq rfl
  exact hwake.trans (.of_eq (by simp))

/-! #### Commands and steps -/

/-- Every command keeps the queue sound. -/
theorem exec_queueSound (c : Instr) (s t : State) (hs : queueSound s) (h : exec c s = .next t) : queueSound t := by
  have request : ∀ {u}, queueSound u →
      (Host.Outcome.next u : Host.Outcome State Fault Refusal) = .next t → queueSound t := by
    rintro u hu ⟨⟩
    exact hu
  have event : ∀ {u}, QueueShrinks s u →
      (Host.Outcome.next u : Host.Outcome State Fault Refusal) = .next t → queueSound t := fun hu =>
    request (queueSound_of_shrinks hu hs)
  cases c with
  | readStatus p page part => exact request (serveRequest_queueSound p (.readStatus page part) s hs) h
  | readRecord p page part => exact request (serveRequest_queueSound p (.readRecord page part) s hs) h
  | readResults p n => exact request (serveRequest_queueSound p (.readResults n) s hs) h
  | readNotices p => exact request (serveRequest_queueSound p .readNotices s hs) h
  | readFaults p => exact request (serveRequest_queueSound p .readFaults s hs) h
  | readPosition p part => exact request (serveRequest_queueSound p (.readPosition part) s hs) h
  | queuePhase p f => exact request (serveRequest_queueSound p (.queuePhase f) s hs) h
  | start p delay => exact request (serveRequest_queueSound p (.start delay) s hs) h
  | armRemote p => exact request (serveRequest_queueSound p .armRemote s hs) h
  | disarmRemote p => exact request (serveRequest_queueSound p .disarmRemote s hs) h
  | remoteStart p => exact request (serveRequest_queueSound p .remoteStart s hs) h
  | pause p => exact request (serveRequest_queueSound p .pause s hs) h
  | resume p => exact request (serveRequest_queueSound p .resume s hs) h
  | cancel p => exact request (serveRequest_queueSound p .cancel s hs) h
  | regenerate p => exact request (serveRequest_queueSound p .regenerate s hs) h
  | setHardness p x => exact request (serveRequest_queueSound p (.setHardness x) s hs) h
  | setRinseLevel p l => exact request (serveRequest_queueSound p (.setRinseLevel l) s hs) h
  | ackNotices p => exact request (serveRequest_queueSound p .ackNotices s hs) h
  | setNoticeMask p kinds => exact request (serveRequest_queueSound p (.setNoticeMask kinds) s hs) h
  | enterQuiet p => exact request (serveRequest_queueSound p .enterQuiet s hs) h
  | setWakeSources p sources => exact request (serveRequest_queueSound p (.setWakeSources sources) s hs) h
  | takeHold p => exact request (serveRequest_queueSound p .takeHold s hs) h
  | releaseHold p => exact request (serveRequest_queueSound p .releaseHold s hs) h
  | enterService p => exact request (serveRequest_queueSound p .enterService s hs) h
  | leaveService p => exact request (serveRequest_queueSound p .leaveService s hs) h
  | overrideOutput p output value => exact request (serveRequest_queueSound p (.overrideOutput output value) s hs) h
  | moveRod p slot => exact request (serveRequest_queueSound p (.moveRod slot) s hs) h
  | referenceRod p => exact request (serveRequest_queueSound p .referenceRod s hs) h
  | writeCalibration p item slot value =>
    exact request (serveRequest_queueSound p (.writeCalibration item slot value) s hs) h
  | clearFaults p => exact request (serveRequest_queueSound p .clearFaults s hs) h
  | storeNow p => exact request (serveRequest_queueSound p .storeNow s hs) h
  | restart p mark => exact request (serveRequest_queueSound p (.restart mark) s hs) h
  | byteReceived p b stop => exact request (byteReceived_queueSound p b stop s hs) h
  | interByteGapExpiry p => exact event (.of_eq (by simp)) h
  | answerSent p => exact request (answerSent_queueSound p s hs) h
  | powerOn => exact event (.of_nil (resetPart_queue s)) h
  | resetPin => exact event (.of_nil (resetPart_queue s)) h
  | checkpointComplete => exact event (completeWrite_shrinks s) h
  | powerFailWarning => exact event (.of_eq (by simp)) h
  | operatingMinute => exact event (.of_eq (by simp)) h
  | rawSwitchChange i v => exact event (.of_eq (by simp)) h
  | startDelayExpiry => exact event (startDelayExpiry_shrinks s) h
  | doorQualificationExpiry => exact event (.ifFinish (by simp)) h
  | waterRetryExpiry => exact event (.ifFinish (by simp)) h
  | flowPulse => exact event (flowPulse_shrinks s) h
  | settleWindowExpiry => exact event (settleExpiry_shrinks s) h
  | fillStall => exact event (fillStall_shrinks s) h
  | temperatureReading x => exact event (temperatureReading_shrinks x s) h
  | sensorTemp => exact event (.ifFinish (by simp)) h
  | riseCheckExpiry => exact event (riseExpiry_shrinks s) h
  | holdTimerExpiry x => exact event (holdExpiry_shrinks x s) h
  | detentPulse => exact event (finish_shrinks_of_eq (by simp)) h
  | indexPulse => exact event (finish_shrinks_of_eq (by simp)) h
  | alternateSwitchExpiry => exact event (.ifFinish (by simp)) h
  | diverterStall => exact event (diverterStall_shrinks s) h
  | levelSwitchChange water => exact event (deliver_shrinks (fun _ => finish_shrinks_of_eq (by simp)) _ _ s) h
  | drainTailExpiry => exact event (drainTailExpiry_shrinks s) h
  | drainBlocked => exact event (drainBlocked_shrinks s) h
  | brineFillRequest => exact event (.ifFinish (by simp)) h
  | dissolveExpiry => exact event (.of_eq (by simp only [dissolveExpiry]; split <;> simp)) h
  | flushEntry => exact event (flushEntry_shrinks s) h
  | flushTimerExpiry => exact event (.ifFinish (by simp)) h
  | standAloneTailExpiry => exact event (.ifFinish (by simp)) h
  | saltSwitchChange noSalt => exact event (saltChange_shrinks noSalt s) h
  | strokePulse r => exact event (strokePulse_shrinks r s) h
  | strokeTimeout r => exact event (strokeTimeout_shrinks r s) h
  | lowSwitchChange r low => exact event (lowChange_shrinks r low s) h
  | capSwitchChange r isOpen => exact event (capChange_shrinks r isOpen s) h
  | refillWatchExpiry r => exact event (.of_eq (by simp)) h
  | encoderEvent a b => exact event (encoderEvent_shrinks a b s) h
  | homeSwitchChange closed => exact event (homeChange_shrinks closed s) h
  | approachTimeLimit => exact event (.ifFinish (by simp)) h
  | settleTimerExpiry => exact event (settleTimerExpiry_shrinks s) h
  | motionStall => exact event (motionStall_shrinks s) h
  | retryWaitExpiry => exact event (.ifFinish (by simp)) h
  | dryWaitExpiry => exact event (.ifFinish (by simp)) h
  | airingExpiry => exact event (.ifFinish (by simp)) h
  | doorSwitchChange closed => exact event (doorChange_shrinks closed s) h
  | leakOnset => exact event (leakOnset_shrinks s) h
  | leakEnd => exact event (deliver_shrinks (fun _ => finish_shrinks_of_eq (by simp)) _ _ s) h
  | afterRunExpiry => exact event (afterRunExpiry_shrinks s) h
  | overfillOnset => exact event (deliver_shrinks (fun _ => finish_shrinks_of_eq (by simp)) _ _ s) h
  | overfillSwitchOpen => exact event (deliver_shrinks (fun _ => .of_eq (by simp)) _ _ s) h
  | overfillOpenExpiry => exact event (.ifFinish (by simp)) h
  | inhibitAssertion => exact event (deliver_shrinks (fun _ => finish_shrinks_of_eq (by simp)) _ _ s) h
  | inhibitRelease => exact event (deliver_shrinks (fun _ => finish_shrinks_of_eq (by simp)) _ _ s) h
  | wakeKeyPress => exact event (wakeKeyPress_shrinks s) h
  | servicePresentChange present => exact event (servicePresentChange_shrinks present s) h
  | debouncedStateSilentUpdate i v => exact event (execSilentUpdate_shrinks i v s) h

/-- Settles O56: a waiting command runs as `exec` does; an idle step runs the event that is due, or lets a millisecond
pass, which leaves the queue. -/
theorem stepsKeepTheQueueBounded : Obligations.StepsKeepTheQueueBounded := by
  unfold Obligations.StepsKeepTheQueueBounded
  intro s t hs h
  unfold step at h
  split at h
  · refine exec_queueSound _ _ t ?_ h
    exact hs
  · unfold idle at h
    split at h
    · rename_i c _
      have hdraw : (drawFor c s).prog = s.prog := by cases c <;> rfl
      exact exec_queueSound c _ t (queueSound_of_shrinks (.of_eq (by rw [hdraw])) hs) h
    · obtain rfl : advance s = t := Host.Outcome.next.inj h
      exact queueSound_of_shrinks (.of_eq rfl) hs

end Sys2Proof.Machine
end

section
namespace Sys2Proof.Machine

/-! ### O10, O11: phase records and QUEUE PHASE -/

theorem clampTo_fst (x : Nat) {lo hi : Nat} (h : lo ≤ hi) : (clampTo x lo hi).1 = max lo (min hi x) := by
  simp only [clampTo]
  split
  · dsimp only
    omega
  split <;> dsimp only <;> omega

theorem clampTo_snd (x lo hi : Nat) : (clampTo x lo hi).2 = true ↔ x < lo ∨ hi < x := by
  simp only [clampTo]
  split
  · rename_i h
    simp [h]
  split
  · rename_i h
    simp [h]
  · simp only [Bool.false_eq_true, false_iff]
    omega

/-- The kind bytes of Table 11-6. -/
theorem kindOf_cases (b : Byte) :
    (4 < b.toNat ∧ kindOf b = none) ∨ (b = 0 ∧ kindOf b = some .pre) ∨ (b = 1 ∧ kindOf b = some .main) ∨
      (b = 2 ∧ kindOf b = some .inter) ∨ (b = 3 ∧ kindOf b = some .finalRinse) ∨ (b = 4 ∧ kindOf b = some .dry) := by
  revert b
  decide

theorem zonesOf_isSome_iff (b : Byte) : (zonesOf b).isSome = true ↔ b.toNat ≤ 3 := by
  revert b
  decide

/-- The flag check of R2 says what Table 1-1 says of the flags. -/
theorem wrongFlag_eq_false_iff {f : PhaseFields} {k : PhaseKind} (hk : kindOf f.kind = some k) :
    wrongFlag f k = false ↔ validFlags f := by
  rcases kindOf_cases f.kind with ⟨-, h⟩ | ⟨hb, h⟩ | ⟨hb, h⟩ | ⟨hb, h⟩ | ⟨hb, h⟩ | ⟨hb, h⟩
  all_goals
    rw [h] at hk
    cases hk
  all_goals simp [wrongFlag, validFlags, hb, and_assoc]

/-- A wet record is formed exactly from valid contents (R2 check 2). -/
theorem wetRecord_isSome_iff (f : PhaseFields) (k : PhaseKind) : (wetRecord f k).isSome = true ↔ validWet f := by
  constructor
  · simp only [wetRecord]
    split
    · rename_i v h z l hv hh hz hl ho ha
      split
      · simp
      rename_i hrange
      obtain ⟨b, hb, hzb⟩ := Option.bind_eq_some_iff.1 hz
      intro _
      exact ⟨⟨v, hv, by omega, by omega⟩, by simp [hh], ⟨b, hb, (zonesOf_isSome_iff b).1 (by simp [hzb])⟩,
        ⟨l, hl, by omega, by omega⟩, ho, ha⟩
    · simp
  · rintro ⟨⟨v, hv, hv1, hv2⟩, hh, ⟨b, hb, hz⟩, ⟨l, hl, hl1, hl2⟩, ho, ha⟩
    obtain ⟨t, ht⟩ := Option.ne_none_iff_exists'.1 hh
    obtain ⟨z, hz⟩ := Option.isSome_iff_exists.1 ((zonesOf_isSome_iff b).2 hz)
    have hrange : ¬ (v.toNat < 1000 ∨ 8000 < v.toNat ∨ l.toNat < 1 ∨ 4 < l.toNat) := by omega
    simp only [wetRecord, hv, ht, hb, Option.bind_some, hz, hl, ho, ha, hrange, if_false, Option.isSome_some]

/-- A DRY record is formed exactly from valid contents (R2 check 2). -/
theorem dryRecord_isSome_iff (f : PhaseFields) : (dryRecord f).isSome = true ↔ validDry f := by
  constructor
  · simp only [dryRecord]
    split
    · rename_i h o a hv ht hh hz hl ho ha
      split
      · simp
      rename_i hrange
      intro _
      exact ⟨hv, ht, by simp [hh], hz, hl, ⟨o, ho, by omega, by omega⟩, by simp [ha]⟩
    · simp
  · rintro ⟨hv, ht, hh, hz, hl, ⟨o, ho, ho1, ho2⟩, ha⟩
    obtain ⟨h, hh⟩ := Option.ne_none_iff_exists'.1 hh
    obtain ⟨a, ha⟩ := Option.ne_none_iff_exists'.1 ha
    have hrange : ¬ (o.toNat < 1 ∨ 7 < o.toNat) := by omega
    simp only [dryRecord, hv, ht, hh, hz, hl, ho, ha, hrange, if_false, Option.isSome_some]

theorem kindOf_isSome_iff (b : Byte) : (kindOf b).isSome = true ↔ b.toNat ≤ 4 := by
  revert b
  decide

/-- The kind byte 4 is the one of a DRY record. -/
theorem wet_of_kindOf {b : Byte} {k : PhaseKind} (hk : kindOf b = some k) : k.wet = true ↔ b ≠ 4 := by
  revert b
  cases k <;> decide

/-- A record is stored exactly when its contents are valid (R2 check 2). -/
theorem checkRecord_isSome_iff (f : PhaseFields) : (checkRecord f).isSome = true ↔ validPhase f := by
  simp only [validPhase, ← kindOf_isSome_iff]
  cases hk : kindOf f.kind with
  | none => simp [checkRecord, hk]
  | some k =>
    simp only [checkRecord, hk, ← wrongFlag_eq_false_iff hk]
    by_cases hdry : f.kind = 4
    · have hwet : k.wet = false := by simpa [hdry] using wet_of_kindOf hk
      rw [if_pos hdry]
      cases wrongFlag f k <;> simp [hwet, dryRecord_isSome_iff]
    · have hwet : k.wet = true := (wet_of_kindOf hk).2 hdry
      rw [if_neg hdry]
      cases wrongFlag f k <;> simp [hwet, wetRecord_isSome_iff]

/-- What a stored record holds of the fields it came from, and when it counts as clamped (R1, R3). -/
structure StoredFrom (f : PhaseFields) (r : PhaseRecord) (clamped : Bool) : Prop where
  tag : r.tag = f.tag
  fillVolume : r.fillVolume = f.fillVolume.map (·.toNat)
  heatTarget : r.heatTarget = f.heatTarget.map (fun t => max 60 (min 144 t.toNat))
  holdTime : ∀ h, f.holdTime = some h → r.holdTime = min 3600 h.toNat
  zones : r.zones = f.zones.bind zonesOf
  pumpLevel : r.pumpLevel = f.pumpLevel.map (·.toNat)
  openSlot : r.openSlot = f.openSlot.map (·.toNat)
  airing : r.airing = f.airing.map (fun a => min 7200 a.toNat)
  detergent : r.detergent = f.detergent
  rinseAid : r.rinseAid = f.rinseAid
  soilSample : r.soilSample = f.soilSample
  regenWindow : r.regenWindow = f.regenWindow
  clamped_iff : clamped = true ↔ (∃ t, f.heatTarget = some t ∧ (t.toNat < 60 ∨ 144 < t.toNat)) ∨
    (∃ h, f.holdTime = some h ∧ 3600 < h.toNat) ∨ (∃ a, f.airing = some a ∧ 7200 < a.toNat)

theorem wetRecord_storedFrom {f : PhaseFields} {k : PhaseKind} {r : PhaseRecord} {clamped : Bool}
    (hr : wetRecord f k = some (r, clamped)) : r.kind = k ∧ StoredFrom f r clamped := by
  simp only [wetRecord] at hr
  split at hr
  · rename_i v h z l hv hh hz hl ho ha
    split at hr
    · cases hr
    cases hr
    refine ⟨rfl, rfl, by simp [hv], ?heat, ?hold, hz.symm, by simp [hl], by simp [ho], by simp [ha], rfl, rfl, rfl,
      rfl, ?clamped⟩
    case heat => cases f.heatTarget <;> simp [clampTo_fst]
    case hold => simp [hh, clampTo_fst]
    case clamped => cases f.heatTarget <;> simp [hh, ha, clampTo_snd, or_comm]
  · cases hr

theorem dryRecord_storedFrom {f : PhaseFields} {r : PhaseRecord} {clamped : Bool}
    (hr : dryRecord f = some (r, clamped)) (hflags : wrongFlag f .dry = false) :
    r.kind = .dry ∧ StoredFrom f r clamped := by
  have hf : f.detergent = false ∧ f.rinseAid = false ∧ f.soilSample = false ∧ f.regenWindow = false := by
    simpa [wrongFlag, and_assoc] using hflags
  obtain ⟨hdet, hrinse, hsoil, hregen⟩ := hf
  simp only [dryRecord] at hr
  split at hr
  · rename_i h o a hv ht hh hz hl ho ha
    split at hr
    · cases hr
    cases hr
    refine ⟨rfl, rfl, by simp [hv], by simp [ht], ?hold, by simp [hz], by simp [hl], by simp [ho], ?airing, hdet.symm,
      hrinse.symm, hsoil.symm, hregen.symm, ?clamped⟩
    case hold => simp [hh, clampTo_fst]
    case airing => simp [ha, clampTo_fst]
    case clamped => simp [ht, hh, ha, clampTo_snd]
  · cases hr

theorem checkRecord_storedFrom {f : PhaseFields} {r : PhaseRecord} {clamped : Bool}
    (hr : checkRecord f = some (r, clamped)) : kindOf f.kind = some r.kind ∧ StoredFrom f r clamped := by
  simp only [checkRecord] at hr
  split at hr
  · cases hr
  rename_i k hk
  split at hr
  · cases hr
  rename_i hflags
  split at hr
  · obtain ⟨hkind, hstored⟩ := wetRecord_storedFrom hr
    exact ⟨by rw [hk, hkind], hstored⟩
  · rename_i hwet
    have hdry : k = .dry := by cases k <;> simp_all [PhaseKind.wet]
    subst hdry
    obtain ⟨hkind, hstored⟩ := dryRecord_storedFrom hr (by simpa using hflags)
    exact ⟨by rw [hk, hkind], hstored⟩

/-- Settles O10, by the wet and the DRY record's checks and the flags' check apart. -/
theorem validRecordsAreStoredClamped : Obligations.ValidRecordsAreStoredClamped := by
  unfold Obligations.ValidRecordsAreStoredClamped
  intro f
  refine ⟨checkRecord_isSome_iff f, fun r clamped hr => ?_⟩
  obtain ⟨hkind, h⟩ := checkRecord_storedFrom hr
  exact ⟨h.tag, hkind, h.fillVolume, h.heatTarget, h.holdTime, h.zones, h.pumpLevel, h.openSlot, h.airing,
    h.detergent, h.rinseAid, h.soilSample, h.regenWindow, h.clamped_iff⟩

/-! #### QUEUE PHASE -/

theorem dryTail_iff (s : State) : dryTail s = true ↔ (s.prog.queue.getLast?).map (·.kind) = some .dry := by
  simp only [dryTail]
  cases s.prog.queue.getLast? <;> simp

/-- A request that reaches its owner: the command's outcome, from what the owner answers. -/
theorem next_serve {p : Port} {perm : Permission} {s u : State} {r : Reply} {owner : State → State × Reply}
    (hreach : reaches p perm s) (howner : owner s = (u, r)) :
    (Host.Outcome.next (serve p perm owner s) : Host.Outcome State Fault Refusal) = .next (answer p r u) := by
  rw [serve_of_reaches hreach, howner]

/-- Settles O11: the checks of R2 one after the other, each under the ones before it. -/
theorem queuePhaseChecksThenAppends : Obligations.QueuePhaseChecksThenAppends := by
  unfold Obligations.QueuePhaseChecksThenAppends
  intro p f s hreach
  refine ⟨fun hstate => next_serve hreach (by simp [ownerQueuePhase, hstate]), fun hc hf => ⟨?_, ?_, ?_, ?_⟩⟩
  · intro hinvalid
    have hnone : checkRecord f = none := by simpa [← checkRecord_isSome_iff] using hinvalid
    exact next_serve hreach (by simp [ownerQueuePhase, hc, hf, hnone])
  · intro hvalid hfull
    obtain ⟨⟨r, clamped⟩, hr⟩ := Option.isSome_iff_exists.1 ((checkRecord_isSome_iff f).2 hvalid)
    exact next_serve hreach (by simp [ownerQueuePhase, hc, hf, hr, hfull])
  · intro hvalid hroom hdry
    obtain ⟨⟨r, clamped⟩, hr⟩ := Option.isSome_iff_exists.1 ((checkRecord_isSome_iff f).2 hvalid)
    have htail := (dryTail_iff s).2 hdry
    exact next_serve hreach (by simp [ownerQueuePhase, hc, hf, hr, Nat.not_le.2 hroom, htail])
  · intro r clamped hr hroom hdry
    have htail : dryTail s = false := Bool.eq_false_iff.2 (mt (dryTail_iff s).1 hdry)
    exact next_serve hreach (by simp [ownerQueuePhase, hc, hf, hr, Nat.not_le.2 hroom, htail, State.onProg])

end Sys2Proof.Machine
end

section
namespace Sys2Proof.Machine

/-! ### O12 to O16: START, the arm, PAUSE and RESUME, REMOTE START, the program's timers -/

theorem startFault_iff (s : State) :
    startFault s = true ↔ s.notes.standing.inletLeak = true ∨ s.notes.standing.rodStuck = true := by
  simp [startFault]

theorem startFault_eq_false {s : State} (hleak : s.notes.standing.inletLeak = false)
    (hstuck : s.notes.standing.rodStuck = false) : startFault s = false := by
  simp [startFault, hleak, hstuck]

/-- The hold-cause set of a running phase takes the update (R22). -/
theorem onHolds_of_running {s : State} (h : (runningPhase s).isSome = true) (f : HoldSet → HoldSet) :
    onHolds f s = { s with prog := { s.prog with holds := f s.prog.holds } } := by
  simp [onHolds, h, State.onProg]

/-- In RUNNING with a phase and a record at the head of the queue a phase runs (R4). -/
theorem runningPhase_eq {s : State} {ph : RunningPhase} {r : PhaseRecord} {rest : List PhaseRecord}
    (hstate : s.prog.state = .running) (hphase : s.prog.phase = some ph) (hqueue : s.prog.queue = r :: rest) :
    runningPhase s = some (r, ph) := by
  simp [runningPhase, hstate, hphase, hqueue]

theorem runningPhase_isSome {s : State} (hstate : s.prog.state = .running) (hphase : s.prog.phase ≠ none)
    (hqueue : s.prog.queue ≠ []) : (runningPhase s).isSome = true := by
  obtain ⟨ph, hphase⟩ := Option.ne_none_iff_exists'.1 hphase
  obtain ⟨r, rest, hqueue⟩ := List.exists_cons_of_ne_nil hqueue
  simp [runningPhase_eq hstate hphase hqueue]

/-- Outside RUNNING no phase runs (R4). -/
theorem runningPhase_of_not_running {s : State} (h : s.prog.state ≠ .running) : runningPhase s = none := by
  cases hr : runningPhase s with
  | none => rfl
  | some x => exact absurd (runningPhase_parts hr).1 h

/-- Settles O13. -/
theorem armPauseAndResume : Obligations.ArmPauseAndResume := by
  unfold Obligations.ArmPauseAndResume
  refine ⟨fun p s hreach => ⟨?_, ?_, ?_, ?_⟩, fun p s hreach => ⟨?_, ?_⟩⟩
  · intro hready hdelayed
    exact next_serve hreach (by simp [ownerArmRemote, hready, hdelayed])
  · intro hstate hdoor
    exact next_serve hreach (by rcases hstate with h | h <;> simp [ownerArmRemote, h, hdoor])
  · intro hstate hdoor
    exact next_serve hreach (by rcases hstate with h | h <;> simp [ownerArmRemote, h, hdoor, State.onProg])
  · exact next_serve hreach rfl
  · intro hstate
    exact ⟨next_serve hreach (by simp [ownerPause, hstate]), next_serve hreach (by simp [ownerResume, hstate])⟩
  · intro hstate hphase hqueue
    have hset := onHolds_of_running (runningPhase_isSome hstate hphase hqueue)
    refine ⟨next_serve hreach (by simp [ownerPause, hstate, hset]), fun hwater => ?_, fun hwater => ?_⟩
    · exact next_serve hreach (by simp [ownerResume, hstate, hset, hwater])
    · exact next_serve hreach (by simp [ownerResume, hstate, hset, hwater, retryNow, State.onProg])

/-! #### START -/

/-- A START delay held to 1440 min, and whether that changed it (R7). -/
theorem startMinutes_eq (delay : Half) :
    (startMinutes delay).1 = min 1440 delay.toNat ∧ ((startMinutes delay).2 = true ↔ 1440 < delay.toNat) := by
  simp [startMinutes, clampTo_fst, clampTo_snd]

/-- What follows the outputs touches one timer of the thermal unit (R67). -/
theorem followOutputs_therm (s : State) :
    { (followOutputs s).therm with divStall := s.therm.divStall } = s.therm := by
  simp only [followOutputs, zeroDivStall]
  repeat' split
  all_goals simp

@[simp] theorem followOutputs_slowCount (s : State) : (followOutputs s).therm.slowCount = s.therm.slowCount := by
  have h := congrArg Thermal.slowCount (followOutputs_therm s)
  exact h

theorem finish_soilClass_slowCount {s : State} (h : runningPhase s = none) :
    (finish s).prog.soilClass = s.prog.soilClass ∧ (finish s).therm.slowCount = s.therm.slowCount := by
  obtain ⟨q, -, he⟩ := finish_of_no_phase s h
  rw [he]
  simp

/-- What a taken START or REMOTE START sets of the thermal unit (spec/03 R58). -/
@[simp] theorem startCommon_therm (s : State) : (startCommon s).therm = { s.therm with slowCount := 0 } := by
  simp only [startCommon]
  split <;> simp

/-- A START that passes its checks (R7). -/
theorem ownerStart_taken {s : State} (hstate : s.prog.state = .ready) (hmode : s.sup.mode = .normal)
    (hdoor : doorClosed s = true) (hleak : leakPresent s = false) (hfault : startFault s = false) (delay : Half) :
    ownerStart delay s =
      (finish (if (startMinutes delay).1 = 0 then enterRunning (startCommon s)
        else (startCommon s).onProg fun p =>
          { p with state := .delayed, delay := some ((startMinutes delay).1 * 60000) }),
       Reply.okOr (startMinutes delay).2) := by
  simp [ownerStart, hstate, hmode, hdoor, hleak, hfault]

/-- Settles O12. -/
theorem startChecksThenStarts : Obligations.StartChecksThenStarts := by
  unfold Obligations.StartChecksThenStarts
  intro p delay s hreach
  refine ⟨?_, ?_, ?_, ?_, ?_, ?_⟩
  · intro hstate
    exact next_serve hreach (by simp [ownerStart, hstate])
  · intro hstate hmode
    exact next_serve hreach (by simp [ownerStart, hstate, hmode])
  · intro hstate hmode hdoor
    exact next_serve hreach (by simp [ownerStart, hstate, hmode, hdoor])
  · intro hstate hmode hdoor hleak
    exact next_serve hreach (by simp [ownerStart, hstate, hmode, hdoor, hleak])
  · intro hstate hmode hdoor hleak hfault
    have hfault := (startFault_iff s).2 hfault
    exact next_serve hreach (by simp [ownerStart, hstate, hmode, hdoor, hleak, hfault])
  · intro hstate hmode hdoor hleak hinlet hstuck
    have htaken := ownerStart_taken hstate hmode hdoor hleak (startFault_eq_false hinlet hstuck)
    refine ⟨?_, fun hdelay => ?_⟩
    · rintro rfl
      exact next_serve hreach (htaken 0)
    · obtain ⟨hminutes, hclamped⟩ := startMinutes_eq delay
      have hpos : min 1440 delay.toNat ≠ 0 := by
        have : delay.toNat ≠ 0 := fun h => hdelay (BitVec.eq_of_toNat_eq h)
        omega
      have hreply : Reply.okOr (startMinutes delay).2 = if 1440 < delay.toNat then Reply.clamped else Reply.ok := by
        simp only [Reply.okOr, hclamped]
      have howner := htaken delay
      rw [hreply, hminutes, if_neg hpos] at howner
      refine ⟨_, next_serve hreach howner, ?_⟩
      have hidle := runningPhase_of_not_running (s := (startCommon s).onProg fun p =>
        { p with state := .delayed, delay := some (min 1440 delay.toNat * 60000) }) (by simp)
      obtain ⟨-, hstore, -, hqueue, hdelayed, -⟩ := finish_leaves _ hidle
      obtain ⟨hsoil, hslow⟩ := finish_soilClass_slowCount hidle
      rw [hstore, hqueue, hdelayed, hsoil, hslow]
      simp

/-! #### REMOTE START and entering RUNNING -/

/-- An approach that a START asks for on a rod at rest away from home (R133, R135). -/
theorem startCommon_rod (s : State) :
    (s.rod.referenced = true → (startCommon s).rod = s.rod) ∧
      (s.rod.referenced = false → s.rod.motion = none → s.mon.home.state = false → (startCommon s).rod =
        { s.rod with motion := some ⟨.approach s.rod.count 0, .start, .inward, .slow, false, 0, 0, 0, 0, 0⟩ }) := by
  refine ⟨fun href => by simp [startCommon, href], fun href hmotion hhome => ?_⟩
  simp [startCommon, href, askApproach, approachInProgress, hmotion, hhome, withdrawMotion]

/-- A window's record kept apart leaves the inlet as grantable as it was (R35, R37). -/
theorem grantable_requestWash (target : Nat) (s : State) (f : Program → Program) :
    grantable ((s.onWater fun w =>
      { w with window := keepInWindow w, record := some (washRecord target s.cal.flowQ) }).onProg f) = grantable s := by
  simp [grantable, keepInWindow]

/-- A wash fill that is asked for afresh: its record, and the inlet, or the wait for it under INLET (R26, R34, R35, R37). -/
theorem requestWash_spec (target : Nat) {s : State} (hholder : s.water.holder ≠ some .wash)
    (hwait : s.water.waitWash = false) (hphase : (runningPhase s).isSome = true) :
    (requestWash target s).water.record = some (washRecord target s.cal.flowQ) ∧
      (grantable s = true → (requestWash target s).water.holder = some .wash) ∧
      (grantable s = false → (requestWash target s).water.waitWash = true) ∧
      (requestWash target s).prog.holds = { s.prog.holds with inlet := s.prog.holds.inlet || !grantable s } := by
  obtain ⟨u, hu⟩ : ∃ u, u = (s.onWater fun w =>
      { w with window := keepInWindow w, record := some (washRecord target s.cal.flowQ) }).onProg
        fun p => { p with stallCount := 0, retry := none } := ⟨_, rfl⟩
  have hask : requestWash target s = askWash u := by rw [hu]; rfl
  have hgrant : grantable u = grantable s := by rw [hu]; exact grantable_requestWash target s _
  have hrecord : u.water.record = some (washRecord target s.cal.flowQ) := by rw [hu]; rfl
  have hholds : u.prog.holds = s.prog.holds := by rw [hu]; rfl
  obtain ⟨-, hgranted, hwaits, -⟩ := inlet_spec u
  have hholder : u.water.holder ≠ some .wash := by rw [hu]; exact hholder
  have hwait : u.water.waitWash = false := by rw [hu]; exact hwait
  have hphase : (runningPhase u).isSome = true := by rw [hu]; exact hphase
  rw [hask, ← hgrant, ← hholds]
  cases hg : grantable u with
  | true =>
    rw [hgranted hholder hwait hg]
    simp [hrecord]
  | false =>
    obtain ⟨hwater, hinlet⟩ := hwaits hholder hwait hg
    rw [hwater, hinlet hphase]
    simp [hrecord]

/-- The head record's phase in its first stage, nothing asked for yet (R5, R22, R54). -/
def phaseBegun (wet first : Bool) (s : State) : State :=
  s.onProg fun p => { p with
    phase := some ⟨if wet then .filling else .dryWait, none, 0, s.therm.working.getD 0, false, false, false, none⟩
    holds := beginningHolds wet first s, retry := none, doorQual := 0 }

/-- A wet head record begins with its wash fill asked for, a DRY one with its wait (R19, spec/07 R144). -/
theorem beginPhase_eq (first : Bool) {s : State} {r : PhaseRecord} {rest : List PhaseRecord}
    (hqueue : s.prog.queue = r :: rest) :
    beginPhase first s = if r.kind.wet then requestWash (r.fillVolume.getD 0) (phaseBegun true first s)
      else enterDryWait r (phaseBegun false first s) := by
  unfold beginPhase
  split
  · simp_all
  · obtain ⟨rfl, rfl⟩ := List.cons.inj (hqueue.symm.trans ‹_›)
    cases hwet : r.kind.wet <;> rfl

/-- A DRY phase at its beginning: a door that reads open ends DRY_WAIT with AIRING, a hold time of 0 with OPENING (R144). -/
theorem enterDryWait_spec (r : PhaseRecord) {s : State} {ph : RunningPhase} (hphase : s.prog.phase = some ph)
    (hopen : ph.stageEnd = none) :
    enterDryWait r s = { s with
      prog := { s.prog with
        phase := some { ph with
          stageEnd := if doorClosed s = false then some (.goto .airing)
            else if r.holdTime = 0 then some (.goto .opening) else none } }
      rod := { s.rod with dryWait := some (r.holdTime * 1000) } } := by
  have hdoor : ∀ f, doorClosed (s.onRod f) = doorClosed s := fun _ => rfl
  simp only [enterDryWait, hdoor]
  have hsame : some { ph with stageEnd := none } = s.prog.phase := by rw [hphase, ← hopen]
  split
  · simp [reportEnd, onPhase, State.onRod, State.onProg, hphase, hopen]
  split
  · simp [reportEnd, onPhase, State.onRod, State.onProg, hphase, hopen]
  · rw [hsame]
    rfl

/-- Settles O14. -/
theorem remoteStartNeedsTheArm : Obligations.RemoteStartNeedsTheArm := by
  unfold Obligations.RemoteStartNeedsTheArm
  refine ⟨fun s hreach => ⟨?_, fun hstate => ?_⟩, fun s => ?_, fun s r rest hqueue => ?_⟩
  · intro hready hdelayed
    exact next_serve hreach (by simp [ownerRemoteStart, hready, hdelayed])
  · have hstate : ¬ (s.prog.state ≠ .ready ∧ s.prog.state ≠ .delayed) := fun h => hstate.elim h.1 h.2
    refine ⟨?_, ?_, ?_, ?_, ?_⟩
    · intro harm
      exact next_serve hreach (by simp [ownerRemoteStart, hstate, harm])
    · intro harm hmode
      exact next_serve hreach (by simp [ownerRemoteStart, hstate, harm, hmode])
    · intro harm hmode hleak
      exact next_serve hreach (by simp [ownerRemoteStart, hstate, harm, hmode, hleak])
    · intro harm hmode hleak hfault
      have hfault := (startFault_iff s).2 hfault
      exact next_serve hreach (by simp [ownerRemoteStart, hstate, harm, hmode, hleak, hfault])
    · intro harm hmode hleak hinlet hstuck
      have hfault := startFault_eq_false hinlet hstuck
      exact next_serve hreach (by simp [ownerRemoteStart, hstate, harm, hmode, hleak, hfault])
  · obtain ⟨hreferenced, hasked⟩ := startCommon_rod s
    exact ⟨startCommon_prog s, startCommon_therm s, hreferenced, hasked⟩
  · obtain ⟨hrunning, hkeeps, harm, hdelay, -, hsoil⟩ := enterRunning_keepsProg s
    have hsoft : (enterRunning s).soft = { s.soft with tail := none } := by simp [enterRunning]
    obtain ⟨u, hu⟩ : ∃ u, u = (s.onProg fun p =>
      { p with state := .running, arm := false, delay := none }).onSoft fun f => { f with tail := none } := ⟨_, rfl⟩
    have henter : enterRunning s = beginPhase true u := by rw [hu]; rfl
    rw [beginPhase_eq true (by rw [hu]; exact hqueue)] at henter
    refine ⟨hrunning, hkeeps, harm, hdelay, hsoil, hsoft, fun hwet hholder hwait => ?_, fun hdry => ?_⟩
    · rw [if_pos hwet] at henter
      have hphase : (runningPhase (phaseBegun true true u)).isSome = true := by
        subst hu
        exact runningPhase_isSome rfl (by simp [phaseBegun]) (by simp [phaseBegun, hqueue])
      obtain ⟨hrecord, hgranted, hwaits, hholds⟩ := requestWash_spec (r.fillVolume.getD 0) (s := phaseBegun true true u)
        (by subst hu; exact hholder) (by subst hu; exact hwait) hphase
      rw [henter]
      subst hu
      exact ⟨by simp [phaseBegun], by simp, by simp, hrecord, hgranted, hwaits, hholds⟩
    · rw [if_neg (by simp [hdry]), enterDryWait_spec r rfl rfl] at henter
      rw [henter]
      subst hu
      exact ⟨rfl, rfl, rfl, rfl⟩

end Sys2Proof.Machine
end

section
namespace Sys2Proof.Machine

/-! #### The program's timers -/

theorem wakeUp_of_awake {s : State} (h : s.sup.mode ≠ .quiet) (cause : WakeCause) : wakeUp cause s = s := by
  simp [wakeUp, h]

theorem wakeUp_of_quiet {s : State} (h : s.sup.mode = .quiet) (cause : WakeCause) :
    wakeUp cause s = finish (raiseAll .woke { s with sup := { s.sup with mode := .normal, lastWake := some cause } }) := by
  simp [wakeUp, wake, h, State.onSup]

/-- The mode after a wake (R170). -/
theorem wakeUp_sup (cause : WakeCause) (s : State) :
    (wakeUp cause s).sup =
      if s.sup.mode = .quiet then { s.sup with mode := .normal, lastWake := some cause } else s.sup := by
  split
  · rename_i h
    simp [wakeUp_of_quiet h]
  · rename_i h
    rw [wakeUp_of_awake h]

theorem delayConditions_iff (s : State) : delayConditions s = true ↔
    s.sup.mode = .normal ∧ doorClosed s = true ∧ leakPresent s = false ∧
      s.notes.standing.inletLeak = false ∧ s.notes.standing.rodStuck = false := by
  simp [delayConditions, startFault, and_assoc]

/-- Settles O16. -/
theorem programTimersExpire : Obligations.ProgramTimersExpire := by
  unfold Obligations.ProgramTimersExpire
  intro s
  have hexpiry : s.prog.state = .delayed → s.prog.delay ≠ none → exec .startDelayExpiry s =
      .next (delayOver (if s.sup.wake.delay then wakeUp .delay s else s)) := fun hstate hdelay =>
    congrArg Host.Outcome.next ((startDelayExpiry_eq s).trans
      (if_pos ⟨hstate, Option.isSome_iff_ne_none.2 hdelay⟩))
  refine ⟨?_, ?_, ?_, ?_, ?_⟩
  · intro hstate hdelay hmode hdoor hleak hinlet hstuck
    have hcond := (delayConditions_iff s).2 ⟨hmode, hdoor, hleak, hinlet, hstuck⟩
    rw [hexpiry hstate hdelay, wakeUp_of_awake (by simp [hmode]), ite_self, delayOver, if_pos hcond]
  · intro hstate hdelay hbar
    have hasleep : (if s.sup.wake.delay then wakeUp .delay s else s) = s := by
      rcases hbar with ⟨-, hwake⟩ | hmode | ⟨hmode, -⟩
      · simp [hwake]
      · rw [wakeUp_of_awake (by simp [hmode]), ite_self]
      · rw [wakeUp_of_awake (by simp [hmode]), ite_self]
    have hcond : ¬ delayConditions s = true := by
      rw [delayConditions_iff]
      rintro ⟨hmode, hdoor, hleak, hinlet, hstuck⟩
      simp [hmode, hdoor, hleak, hinlet, hstuck] at hbar
    rw [hexpiry hstate hdelay, hasleep, delayOver, if_neg hcond]
    rfl
  · intro hstate hdelay hmode hwake
    have hwoken := wakeUp_of_quiet hmode .delay
    rw [hexpiry hstate hdelay, if_pos hwake, ← hwoken]
    have hidle : runningPhase (wake .delay s) = none := runningPhase_of_not_running (by simp [hstate])
    obtain ⟨-, -, -, -, hstate', -⟩ := finish_leaves _ hidle
    have hdelayed : (wakeUp .delay s).prog.state = .delayed := by
      rw [wakeUp, if_pos hmode, hstate']
      simpa using hstate
    have hrunning : (wakeUp .delay s).prog.delay.isSome = true := by
      simpa using Option.isSome_iff_ne_none.2 hdelay
    have hawake : (wakeUp .delay s).sup.mode ≠ .quiet := by simp [wakeUp_sup, hmode]
    have hagain := startDelayExpiry_eq (wakeUp .delay s)
    rw [if_pos ⟨hdelayed, hrunning⟩, wakeUp_of_awake hawake, ite_self] at hagain
    exact congrArg Host.Outcome.next hagain.symm
  · intro hphase hdoor hclosed hhome
    have hqual : qualRuns s = true := by simp [qualRuns, hphase, hdoor, hclosed, hhome]
    exact congrArg Host.Outcome.next (if_pos hqual)
  · intro hretry
    exact congrArg Host.Outcome.next (if_pos (Option.isSome_iff_ne_none.2 hretry))

/-! ### O2: the idle step -/

@[simp] theorem Monitor.get_set_same (m : Monitor) (i : SwitchInput) (x : Switch) : (m.set i x).get i = x := by
  cases i <;> rfl

theorem Monitor.get_set_other (m : Monitor) {i j : SwitchInput} (x : Switch) (h : j ≠ i) :
    (m.set i x).get j = m.get j := by
  cases i <;> cases j <;> simp_all [Monitor.get, Monitor.set]

/-- A millisecond moves no line and no reading of an input: only its candidate timer (R153). -/
theorem tickInputs_get (s : State) (i : SwitchInput) :
    { (tickInputs s).get i with timer := (s.mon.get i).timer } = s.mon.get i := by
  have hfold : ∀ (l : List SwitchInput) (m : Monitor),
      { m.get i with timer := (s.mon.get i).timer } = s.mon.get i →
      { (l.foldl (fun m j => m.set j { s.mon.get j with
          timer := countUp (candidateRuns s j) (s.mon.get j).timer }) m).get i with
        timer := (s.mon.get i).timer } = s.mon.get i := by
    intro l
    induction l with
    | nil => exact fun _ h => h
    | cons j rest ih =>
      intro m h
      refine ih _ ?_
      by_cases hj : i = j
      · subst hj
        simp
      · rw [Monitor.get_set_other _ _ hj]
        exact h
  exact hfold allInputs s.mon rfl

/-- Settles O2: with no event due the idle step is `advance`. -/
theorem idleStepLetsAMillisecondPass : Obligations.IdleStepLetsAMillisecondPass := by
  unfold Obligations.IdleStepLetsAMillisecondPass
  intro s hpending hdue
  have hstep : step s = .next (advance s) := by simp [step, hpending, idle, hdue]
  have hage : (advance s).prog.phase.map (·.age) = s.prog.phase.map (·.age + 1) := by
    simp [advance, Function.comp_def]
  have hreservoir : ∀ r, ((advance s).dosing.get r).account = (s.dosing.get r).account ∧
      ((advance s).dosing.get r).known = (s.dosing.get r).known := by
    intro r
    cases r <;> exact ⟨rfl, rfl⟩
  have hinput : ∀ i, ((advance s).mon.get i).raw = (s.mon.get i).raw ∧
      ((advance s).mon.get i).state = (s.mon.get i).state ∧ ((advance s).mon.get i).read = (s.mon.get i).read := by
    intro i
    have hraw := congrArg Switch.raw (tickInputs_get s i)
    have hstate := congrArg Switch.state (tickInputs_get s i)
    have hread := congrArg Switch.read (tickInputs_get s i)
    exact ⟨hraw, hstate, hread⟩
  exact ⟨_, hstep, rfl, rfl, hage, hpending, rfl, rfl, rfl, rfl, rfl, rfl, rfl, rfl, rfl, hreservoir, rfl, rfl, rfl, rfl,
    rfl, rfl, hinput, rfl, rfl, rfl, rfl, rfl, rfl, rfl, rfl, rfl⟩

/-! ### O38: the door switch -/

/-- The door's reading taken by the input monitor. -/
def doorRead (closed : Bool) (s : State) : State :=
  { s with mon := { s.mon with door := ⟨closed, closed, true, 0⟩ } }

/-- The part a delivered door change acts on: woken first when DOOR is enabled (R169). -/
def doorWake (s : State) : State := if s.sup.wake.door = true then wakeUp .door s else s

theorem doorWake_keeps (s : State) :
    (doorWake s).soft = s.soft ∧ (doorWake s).mon = s.mon ∧ (doorWake s).cal = s.cal ∧ (doorWake s).ports = s.ports ∧
      (doorWake s).sup.mode = if s.sup.mode = .quiet ∧ s.sup.wake.door = true then .normal else s.sup.mode := by
  simp only [doorWake]
  split
  · rename_i hwake
    simp only [wakeUp_keeps, wakeUp_sup, hwake, and_true, true_and]
    split <;> rfl
  · rename_i hwake
    simp [hwake]

/-- A change of the door switch that has been read before, the other way, is delivered (R153). -/
theorem doorChange_delivered {closed : Bool} {s : State} (hread : s.mon.door.read = true)
    (hstate : s.mon.door.state = !closed) :
    exec (.doorSwitchChange closed) s = .next (finish (doorActs closed (doorRead closed (doorWake s)))) := by
  have hnew : reads s .door closed = false := by cases closed <;> simp [reads, Monitor.get, hstate]
  have hdelivered : silentChange s .door closed = false := by
    simp [silentChange, unread, Monitor.get, hread, oneWay]
  have hset : setDebounced .door closed (doorWake s) = doorRead closed (doorWake s) := by
    simp [setDebounced, State.onMon, Monitor.set, doorRead]
  rw [← hset]
  show Host.Outcome.next (doorChange closed s) = _
  simp only [doorChange, hnew, hdelivered]
  rfl

theorem stageOpen_of_running {s : State} {r : PhaseRecord} {ph : RunningPhase} (hrun : runningPhase s = some (r, ph))
    (st : Stage) : stageOpen s st = (ph.stage == st && ph.stageEnd.isNone) := by
  simp [stageOpen, hrun]

/-- The first report is kept (R21). -/
theorem reportEnd_phase_of_open {s : State} {ph : RunningPhase} (hphase : s.prog.phase = some ph)
    (hopen : ph.stageEnd = none) (e : StageEnd) :
    (reportEnd e s).prog.phase = some { ph with stageEnd := some e } := by
  simp [reportEnd, hphase, hopen]

/-- A closing in AIRING is "closed early" and ends it with RETRACTING (spec/07 R147). -/
theorem doorActs_closed_of_airing {s : State} {r : PhaseRecord} {ph : RunningPhase}
    (hrun : runningPhase s = some (r, ph)) (hstage : ph.stage = .airing) (hopen : ph.stageEnd = none) :
    (doorActs true s).prog.phase = some { ph with stageEnd := some (.goto .retracting) } ∧
      (doorActs true s).rod.closedEarly = true := by
  obtain ⟨-, hphase, -⟩ := runningPhase_parts hrun
  have hairing : stageOpen s .airing = true := by simp [stageOpen_of_running hrun, hstage, hopen]
  simp only [doorActs, if_true, hairing]
  exact ⟨reportEnd_phase_of_open hphase hopen _, rfl⟩

/-- An opening ends DRY_WAIT with AIRING (spec/07 R144). -/
theorem doorActs_opened_of_dryWait {s : State} {r : PhaseRecord} {ph : RunningPhase}
    (hrun : runningPhase s = some (r, ph)) (hstage : ph.stage = .dryWait) (hopen : ph.stageEnd = none) :
    (doorActs false s).prog.phase = some { ph with stageEnd := some (.goto .airing) } := by
  obtain ⟨-, hphase, -⟩ := runningPhase_parts hrun
  have hrun' : runningPhase (s.onProg fun p => { p with arm := false }) = some (r, ph) := hrun
  have hwaiting : stageOpen (s.onProg fun p => { p with arm := false }) .dryWait = true := by
    simp [stageOpen_of_running hrun', hstage, hopen]
  simp only [doorActs, Bool.false_eq_true, if_false, hwaiting, if_true]
  exact reportEnd_phase_of_open hphase hopen _

/-- With a door that reads open neither the circulation pump nor the heater runs (spec/03 R61, R62). -/
theorem outputs_off_of_door_open {s : State} (h : doorClosed s = false) : heaterFinal s = false ∧ circFinal s = 0 := by
  have hcirc : circFinal s = 0 := by simp [circFinal, circInterlock, h]
  exact ⟨by simp [heaterFinal, heaterInterlock, h], hcirc⟩

/-- Settles O38. -/
theorem doorChangesActOnArmAndDrying : Obligations.DoorChangesActOnArmAndDrying := by
  unfold Obligations.DoorChangesActOnArmAndDrying
  refine ⟨fun s hread => ?_, fun x => ?_⟩
  · obtain ⟨hsoft, -, hcal, hports, hmode⟩ := doorWake_keeps s
    refine ⟨fun hclosed => ⟨⟨_, doorChange_delivered hread hclosed, ?_⟩, ?_⟩,
      fun hopen => ⟨⟨_, doorChange_delivered hread hopen, ?_⟩, ?_⟩⟩
    · have hdoor : doorClosed (finish (doorActs false (doorRead false (doorWake s)))) = false := by
        simp [doorClosed, doorRead]
      obtain ⟨hheater, hcirc⟩ := outputs_off_of_door_open hdoor
      refine ⟨by simp, hdoor, ?_, ?_, ?_, ?_, hheater, hcirc⟩
      all_goals simp [doorRead, hsoft, hcal, hports, hmode]
    · rintro w rfl
      exact doorChange_delivered hread hclosed
    · have hdoor : doorClosed (finish (doorActs true (doorRead true (doorWake s)))) = true := by
        simp [doorClosed, doorRead]
      refine ⟨hdoor, ?_, ?_, ?_, ?_⟩
      all_goals simp [doorRead, hsoft, hcal, hports, hmode]
    · rintro w rfl
      exact doorChange_delivered hread hopen
  · refine ⟨by simp, by simp, ?_, ?_, fun h => by simp [doorActs, h], fun h => ?_⟩
    · intro r ph hrun hstage hopen
      exact doorActs_closed_of_airing hrun hstage hopen
    · intro r ph hrun hstage hopen
      exact doorActs_opened_of_dryWait hrun hstage hopen
    · have harm : stageOpen (x.onProg fun p => { p with arm := false }) .dryWait = false := h
      simp only [doorActs, Bool.false_eq_true, if_false, harm]
      rfl

end Sys2Proof.Machine
end

section
namespace Sys2Proof.Machine

/-! ### O15: CANCEL -/

/-- CANCEL up to its last step: the arm and the delay, the running phase's end, the records behind it, the rod (R12). -/
def cancelEmptied (s : State) : State :=
  let s := s.onProg (fun p => { p with arm := false, delay := none })
  let s := if s.prog.state = .running then abandonPhase .cancelled s else s
  let s := cancelQueue s.prog.queue s
  if s.rod.referenced = true ∧ inHomeTrack s = false ∧ s.notes.standing.rodStuck = false ∧ startApproach s = false
  then beginMove .cancel 0 false s else s

/-- CANCEL's last step: CANCELLING for a wet tank, IDLE for a dry one (R12). -/
def cancelLeaves (s : State) : State :=
  if s.prog.tankWet then enterCancelling s
  else
    let s := s.onProg (fun p => { p with state := .idle })
    if s.soft.window = .phase then windowClosed s else s

theorem cancelProgram_eq (s : State) : cancelProgram s = cancelLeaves (cancelEmptied s) := rfl

/-- A result takes the next sequence number (R194). -/
@[simp] theorem placeResult_next (r : ResultRecord) (s : State) :
    (placeResult r s).notes.next = s.notes.next + 1 := rfl

/-- Every record behind the running one leaves with a result of its own (R12, R28). -/
theorem cancelQueue_spec (q : List PhaseRecord) (s : State) :
    (cancelQueue q s).prog = { s.prog with queue := [] } ∧
      (cancelQueue q s).notes.next = s.notes.next + BitVec.ofNat 32 q.length := by
  induction q generalizing s with
  | nil => simp [cancelQueue]
  | cons r rest ih =>
    obtain ⟨hprog, hnext⟩ := ih (trigger (placeResult (unbegunResult r s) s))
    refine ⟨by simpa [cancelQueue] using hprog, ?_⟩
    rw [cancelQueue, hnext]
    simp [BitVec.ofNat_add, BitVec.add_assoc, BitVec.add_comm 1#32]

/-- The running phase ends CANCELLED with its result (R5, R12). -/
theorem abandonPhase_spec {s : State} {r : PhaseRecord} {rest : List PhaseRecord} (e : PhaseEnding)
    (hphase : s.prog.phase ≠ none) (hqueue : s.prog.queue = r :: rest) :
    (abandonPhase e s).prog.queue = rest ∧ (abandonPhase e s).prog.phase = none ∧
      (abandonPhase e s).prog.holds = HoldSet.empty ∧ (abandonPhase e s).notes.next = s.notes.next + 1 := by
  obtain ⟨ph, hph⟩ := Option.ne_none_iff_exists'.1 hphase
  obtain ⟨hrest, hnone, hholds, -, -, -, -, -, -, hnext, -⟩ :=
    endPhase_spec (withdrawPhaseWork s) e ph r rest (by simpa using hph) (by simpa using hqueue)
  have habandon : abandonPhase e s = endPhase e (withdrawPhaseWork s) := by simp [abandonPhase, hph]
  rw [habandon, hrest, hnone, hholds, hnext]
  simp

@[simp] theorem abandonPhase_keepsProg (e : PhaseEnding) (s : State) :
    (abandonPhase e s).prog.state = s.prog.state ∧ (abandonPhase e s).prog.arm = s.prog.arm ∧
    (abandonPhase e s).prog.delay = s.prog.delay ∧ (abandonPhase e s).prog.tankWet = s.prog.tankWet := by
  simp only [abandonPhase]
  split <;> simp

theorem cancelEmptied_keepsProg (s : State) :
    (cancelEmptied s).prog.queue = [] ∧ (cancelEmptied s).prog.arm = false ∧ (cancelEmptied s).prog.delay = none ∧
      (cancelEmptied s).prog.tankWet = s.prog.tankWet := by
  simp only [cancelEmptied]
  repeat' split
  all_goals simp [cancelQueue_spec]

/-- What is left of a running program's phase when its queue is empty (R12). -/
theorem cancelEmptied_of_running {s : State} (hstate : s.prog.state = .running) (hphase : s.prog.phase ≠ none)
    (hqueue : s.prog.queue ≠ []) :
    (cancelEmptied s).prog.phase = none ∧ (cancelEmptied s).prog.holds = HoldSet.empty ∧
      (cancelEmptied s).notes.next = s.notes.next + BitVec.ofNat 32 s.prog.queue.length := by
  obtain ⟨r, rest, hq⟩ := List.exists_cons_of_ne_nil hqueue
  obtain ⟨u, hu⟩ : ∃ u, u = s.onProg fun p => { p with arm := false, delay := none } := ⟨_, rfl⟩
  have hphase : u.prog.phase ≠ none := by rw [hu]; exact hphase
  have hqueue : u.prog.queue = r :: rest := by rw [hu]; exact hq
  obtain ⟨hrest, hnone, hholds, hnext⟩ := abandonPhase_spec .cancelled hphase hqueue
  have hnotes : u.notes = s.notes := by rw [hu]; rfl
  have hrunning : u.prog.state = .running := by rw [hu]; exact hstate
  simp only [cancelEmptied, ← hu, hrunning, if_true]
  split <;> simp [cancelQueue_spec, hrest, hnone, hholds, hnext, hnotes, hq, BitVec.ofNat_add, BitVec.add_assoc, BitVec.add_comm 1#32]

theorem cancelEmptied_of_not_running {s : State} (hstate : s.prog.state ≠ .running) :
    (cancelEmptied s).notes.next = s.notes.next + BitVec.ofNat 32 s.prog.queue.length := by
  simp only [cancelEmptied]
  repeat' split
  all_goals simp_all [cancelQueue_spec]

/-! #### A softener window that closes on an idle program -/

/-- In IDLE neither a drain job nor the softener's end of FLUSH or RESIN_RINSE reaches the program controller (R68, R86). -/
theorem completeDrain_prog_of_idle {s : State} (h : s.prog.state = .idle) : (completeDrain s).prog = s.prog := by
  have hidle : ∀ f, runningPhase (s.onTherm f) = none := fun f => runningPhase_of_not_running (by simp [h])
  simp only [completeDrain]
  repeat' split
  all_goals simp_all [stageOpen]

theorem endExtension_prog_of_idle {s : State} (h : s.prog.state = .idle) : (endExtension s).prog = s.prog := by
  simp only [endExtension]
  repeat' split
  · exact completeDrain_prog_of_idle h
  all_goals rfl

theorem afterRegen_prog_of_idle (aborted : Bool) {s : State} (h : s.prog.state = .idle) :
    (afterRegen aborted s).prog = s.prog := by
  have hidle : ∀ f, runningPhase (s.onSoft f) = none := fun f => runningPhase_of_not_running (by simp [h])
  have hholds : ∀ f g, onHolds g (s.onSoft f) = s.onSoft f := fun f g => by simp [onHolds, hidle]
  simp only [afterRegen, hholds]
  split
  · exact endExtension_prog_of_idle h
  · rfl

theorem restore_prog_of_idle {s : State} (h : s.prog.state = .idle) : (restore s).prog = s.prog := by
  simp only [restore]
  refine (afterRegen_prog_of_idle _ ?_).trans ?_ <;> simp [h]

theorem windowClosed_prog_of_idle {s : State} (h : s.prog.state = .idle) : (windowClosed s).prog = s.prog := by
  simp only [windowClosed]
  repeat' split
  · rw [afterRegen_prog_of_idle _ (by simpa using h)]
    simp
  · rw [restore_prog_of_idle (by simpa using h)]
    simp
  all_goals simp

/-- A restore raises a notice and places no result (R89). -/
@[simp] theorem restore_next (s : State) : (restore s).notes.next = s.notes.next := by
  simp [restore, raiseAll_leaves]

@[simp] theorem windowClosed_next (s : State) : (windowClosed s).notes.next = s.notes.next := by
  simp only [windowClosed]
  repeat' split
  all_goals simp

theorem cancelLeaves_spec (s : State) :
    (cancelLeaves s).prog = { s.prog with state := if s.prog.tankWet then .cancelling else .idle } ∧
      (cancelLeaves s).notes.next = s.notes.next := by
  have hclosed := windowClosed_prog_of_idle (s := s.onProg fun p => { p with state := .idle }) rfl
  simp only [cancelLeaves]
  repeat' split
  all_goals simp_all [enterCancelling]

/-- Settles O15. -/
theorem cancelEmptiesTheQueue : Obligations.CancelEmptiesTheQueue := by
  unfold Obligations.CancelEmptiesTheQueue
  intro p s hreach
  refine ⟨fun hstate => next_serve hreach (by simp [ownerCancel, hstate]), fun hstate => ?_⟩
  have howner : ownerCancel s = (finish (cancelProgram s), Reply.ok) := by
    simp only [ownerCancel]
    rw [if_neg (by rcases hstate with h | h | h | ⟨h, -⟩ <;> simp [h])]
  refine ⟨_, next_serve hreach howner, ?_⟩
  obtain ⟨hprog, hnext⟩ := cancelLeaves_spec (cancelEmptied s)
  obtain ⟨hqueue, harm, hdelay, htank⟩ := cancelEmptied_keepsProg s
  rw [cancelProgram_eq]
  have hidle : runningPhase (cancelLeaves (cancelEmptied s)) = none := by
    refine runningPhase_of_not_running ?_
    rw [hprog]
    split <;> simp
  obtain ⟨hnotes, -, -, hqueue', hstate', harm', hphase', hholds', -⟩ := finish_leaves _ hidle
  have hemptied : (cancelEmptied s).notes.next = s.notes.next + BitVec.ofNat 32 s.prog.queue.length ∧
      (s.prog.state = .running → (cancelEmptied s).prog.phase = none ∧
        (cancelEmptied s).prog.holds = HoldSet.empty) := by
    by_cases hrun : s.prog.state = .running
    · have hrunning : s.prog.phase ≠ none ∧ s.prog.queue ≠ [] := by simpa [hrun] using hstate
      obtain ⟨hphase, hholds, hnext⟩ := cancelEmptied_of_running hrun hrunning.1 hrunning.2
      exact ⟨hnext, fun _ => ⟨hphase, hholds⟩⟩
    · exact ⟨cancelEmptied_of_not_running hrun, fun h => absurd h hrun⟩
  obtain ⟨hresults, hphase⟩ := hemptied
  rw [hqueue', harm', hstate', hphase', hholds', hnotes, hnext, hprog]
  refine ⟨hqueue, harm, ?_, by rw [htank], hresults, hphase, ?_⟩
  · rw [(finish_keepsProg _).2, hprog]
    exact hdelay
  · simp [← cancelProgram_eq]

end Sys2Proof.Machine
end

section
namespace Sys2Proof.Machine

/-! ### O32: the stages of a running phase

The hold causes first, then one lemma per stage entry, then the end of a phase, then the two commands that lead through a
stage transition. -/

/-! #### The hold-cause set while an event is finished (R21, R22, R24) -/

theorem wetRunning_of_running {s : State} {r : PhaseRecord} {ph : RunningPhase} (hrun : runningPhase s = some (r, ph)) :
    wetRunning s = r.kind.wet := by
  simp [wetRunning, hrun]

/-- DOOR is added for a wet phase whose door reads open or whose rod is not home; no other cause changes (R24). -/
theorem watchDoor_holds {s : State} {r : PhaseRecord} {ph : RunningPhase} (hrun : runningPhase s = some (r, ph)) :
    (watchDoor s).prog.holds = { s.prog.holds with
      door := s.prog.holds.door || (r.kind.wet && !(doorClosed s && rodHome s)) } := by
  have hrun' : ∀ q, runningPhase (s.onProg fun p => { p with doorQual := q }) = some (r, ph) := fun _ => hrun
  simp only [watchDoor]
  split
  · rename_i hhome
    simp [hhome]
  · rename_i hhome
    rw [wetRunning_of_running (hrun' 0)]
    split
    · rename_i hwet
      rw [onHolds_of_running (by simp [hrun' 0])]
      simp [hwet, hhome]
    · rename_i hwet
      simp [hwet]

theorem watchDoor_of_home {s : State} (hdoor : doorClosed s = true) (hhome : rodHome s = true) : watchDoor s = s := by
  simp [watchDoor, hdoor, hhome]

theorem suspended_of_door {s : State} (h : s.prog.holds.door = true) : suspended s = true := by
  simp [suspended, HoldSet.any, h]

@[simp] theorem endMetWash_prog (s : State) : (endMetWash s).prog = s.prog := by simp

/-- With a cause in the set when the door has been watched, no stage transition is taken (R21). -/
theorem finish_of_suspended {s : State} (h : suspended (watchDoor s) = true) :
    finish s = followOutputs (endMetWash (placeDemands (watchDoor s))) := by
  have hstays : suspended (placeDemands (watchDoor s)) = true := by
    rw [suspended, (placeDemands_keepsProg _).2.2.1]
    exact h
  rw [finish, runStages_of_suspended _ _ h, runStages_of_suspended _ _ hstays]

/-- While a cause stands the phase keeps its stage (R21, R22, R24). -/
theorem finish_waits {s : State} {r : PhaseRecord} {ph : RunningPhase} (hrun : runningPhase s = some (r, ph))
    (hwaits : suspended s = true ∨ (r.kind.wet = true ∧ (doorClosed s = false ∨ rodHome s = false))) :
    (finish s).prog.state = .running ∧ (finish s).prog.queue = s.prog.queue ∧
      (finish s).prog.phase.map (·.stage) = some ph.stage ∧
      (finish s).prog.holds = { s.prog.holds with
        door := s.prog.holds.door || (r.kind.wet && !(doorClosed s && rodHome s)) } := by
  obtain ⟨hstate, hphase, -⟩ := runningPhase_parts hrun
  have hholds := watchDoor_holds hrun
  have hsuspended : suspended (watchDoor s) = true := by
    rcases hwaits with h | ⟨hwet, h⟩
    · rw [suspended, hholds]
      simp only [suspended, HoldSet.any, Bool.or_eq_true] at h ⊢
      rcases h with ((((h | h) | h) | h) | h) | h <;> simp [h]
    · refine suspended_of_door ?_
      rw [hholds]
      rcases h with h | h <;> simp [hwet, h]
  rw [finish_of_suspended hsuspended]
  simp [hstate, hphase, hholds]

/-! #### The entry of each stage (R18 to R20) -/

theorem stepStage_of_end {s : State} {r : PhaseRecord} {ph : RunningPhase} {e : StageEnd}
    (hrun : runningPhase s = some (r, ph)) (hend : ph.stageEnd = some e) (hfree : suspended s = false) :
    stepStage s = leaveStage r ph e s := by
  simp [stepStage, hrun, hend, hfree]

@[simp] theorem startCirculation_wanted (r : PhaseRecord) (s : State) :
    (startCirculation r s).therm.wanted = r.zones.map firstZone := by
  simp only [startCirculation, startAlternate]
  split <;> simp

theorem buildPlan_plan (r : PhaseRecord) (s : State) : (buildPlan r s).dose.plan ≠ none := by
  simp only [buildPlan]
  split <;> simp

/-- A stroke check leaves the plan in place: it counts in it (R115, R116). -/
theorem nextStroke_plan {s : State} (h : s.dose.plan ≠ none) : (nextStroke s).dose.plan ≠ none := by
  obtain ⟨p, hp⟩ := Option.ne_none_iff_exists'.1 h
  simp only [nextStroke, hp]
  repeat' split
  all_goals simp [hp, allShortfall, onPlan]

/-- FILLING with a dose flag goes on to DOSING with its plan, where circulation begins (R18, R63, R103). -/
theorem enterAfterFilling_of_doses {r : PhaseRecord} {s : State} {ph : RunningPhase} (hphase : s.prog.phase = some ph)
    (hdoses : r.doses = true) :
    (∃ x, (enterAfterFilling r s).prog.phase = some x ∧ x.stage = .dosing) ∧
      (enterAfterFilling r s).dose.plan ≠ none ∧ (enterAfterFilling r s).therm.wanted = r.zones.map firstZone := by
  rw [enterAfterFilling, if_pos hdoses]
  refine ⟨?_, nextStroke_plan (buildPlan_plan _ _), by simp⟩
  have hstage : (nextStroke (buildPlan r (enterStage .dosing (startCirculation r s)))).prog.phase.map (·.stage) =
      some .dosing := by simp [hphase]
  exact Option.map_eq_some_iff.1 hstage

/-- A report changes nothing of the phase that does not read it (R21). -/
theorem reportEnd_map {α : Type} {f : RunningPhase → α} (hf : ∀ ph e, f { ph with stageEnd := e } = f ph) (e : StageEnd)
    (s : State) : (reportEnd e s).prog.phase.map f = s.prog.phase.map f := by
  cases h : s.prog.phase with
  | none => simp [reportEnd, h]
  | some ph => cases he : ph.stageEnd <;> simp [reportEnd, h, he, hf]

/-- What a phase keeps through the end of HOLDING and the report of a stage's end. -/
def phaseMarks (x : RunningPhase) : Stage × Bool × Bool := (x.stage, x.heated, x.heatSkipped)

@[simp] theorem reportEnd_marks (e : StageEnd) (s : State) :
    (reportEnd e s).prog.phase.map phaseMarks = s.prog.phase.map phaseMarks :=
  reportEnd_map (fun _ _ => rfl) e s

@[simp] theorem holdingOver_marks (x : Turbidity) (r : PhaseRecord) (s : State) :
    (holdingOver x r s).prog.phase.map phaseMarks = s.prog.phase.map phaseMarks := by
  have hsample : ∀ c : Fin 4, (phaseMarks ∘ fun ph => { ph with sample := some c }) = phaseMarks := fun _ => rfl
  simp only [holdingOver, takeSoilSample, reportEnd_marks]
  repeat' split
  all_goals simp [hsample]

/-- HOLDING keeps what the phase has heated and skipped; a hold time of 0 reports its end at once (R19, R59). -/
theorem enterHolding_phase (r : PhaseRecord) {s : State} {ph : RunningPhase} (hphase : s.prog.phase = some ph) :
    ∃ x, (enterHolding r s).prog.phase = some x ∧ x.stage = .holding ∧ x.heated = ph.heated ∧
      x.heatSkipped = ph.heatSkipped := by
  have hmarks : (enterHolding r s).prog.phase.map phaseMarks = some (.holding, ph.heated, ph.heatSkipped) := by
    simp only [enterHolding]
    repeat' split
    all_goals simp [hphase, phaseMarks]
  obtain ⟨x, hx, hm⟩ := Option.map_eq_some_iff.1 hmarks
  simp only [phaseMarks, Prod.mk.injEq] at hm
  exact ⟨x, hx, hm⟩

@[simp] theorem placeHeating_heatSkipped (target : Nat) (s : State) :
    (placeHeating target s).prog.phase.map (·.heatSkipped) = s.prog.phase.map (·.heatSkipped) := by
  have hreport := reportEnd_map (f := (·.heatSkipped)) fun _ _ => rfl
  simp only [placeHeating, targetReached]
  repeat' split
  all_goals simp [hreport, Function.comp_def]

/-- HEATING, skipped without a heat target, and skipped with "heat skipped" while its sensor or its heater fails (R18, R56). -/
theorem enterHeating_phase (r : PhaseRecord) {s : State} {ph : RunningPhase} (hphase : s.prog.phase = some ph) :
    ∃ x, (enterHeating r s).prog.phase = some x ∧
      x.stage = (if r.heatTarget.isSome = true ∧ s.notes.standing.sensorTemp = false ∧
        s.notes.standing.heater = false then .heating else .holding) ∧
      x.heatSkipped = (ph.heatSkipped || (r.heatTarget.isSome &&
        (s.notes.standing.sensorTemp || s.notes.standing.heater))) := by
  cases htarget : r.heatTarget with
  | none =>
    obtain ⟨x, hx, hstage, -, hskipped⟩ := enterHolding_phase r hphase
    exact ⟨x, by simp [enterHeating, htarget, hx], by simp [hstage], by simp [hskipped]⟩
  | some target =>
    by_cases hfault : s.notes.standing.sensorTemp = true ∨ s.notes.standing.heater = true
    · have hmarked : (onPhase (fun ph => { ph with heatSkipped := true }) s).prog.phase =
          some { ph with heatSkipped := true } := by simp [hphase]
      obtain ⟨x, hx, hstage, -, hskipped⟩ := enterHolding_phase r hmarked
      refine ⟨x, by simp [enterHeating, htarget, hfault, hx], ?_, ?_⟩
      · rcases hfault with h | h <;> simp [hstage, h]
      · rcases hfault with h | h <;> simp [hskipped, h]
    · have hheats : enterHeating r s = placeHeating target (enterStage .heating s) := by
        simp [enterHeating, htarget, hfault]
      have hstage : (enterHeating r s).prog.phase.map (·.stage) = some .heating := by simp [hheats, hphase]
      have hskipped : (enterHeating r s).prog.phase.map (·.heatSkipped) = some ph.heatSkipped := by
        simp [hheats, hphase]
      obtain ⟨x, hx, hxstage⟩ := Option.map_eq_some_iff.1 hstage
      simp only [hx, Option.map_some, Option.some.injEq] at hskipped
      simp only [not_or, Bool.not_eq_true] at hfault
      exact ⟨x, hx, by simp [hxstage, hfault], by simp [hskipped, hfault]⟩

/-- DRAINING: circulation has ended and its drain job is created (R19, R63, R68). -/
theorem enterDraining_therm (r : PhaseRecord) (s : State) :
    (enterDraining r s).therm = { s.therm with
      regulator := none, rise := none, hold := none, wanted := none, alternate := none
      drain := some ⟨.phase, if levelWater s then .pumping else .tailing, 0, 0, r.regenWindow⟩ } := rfl

/-- The DRY stages go on to the stage that is named (R20). -/
theorem leaveStage_goto {r : PhaseRecord} {s : State} {ph : RunningPhase} {next : Stage} (hphase : s.prog.phase = some ph)
    (hdry : ph.stage = .dryWait ∨ ph.stage = .opening ∨ ph.stage = .airing ∨ ph.stage = .retracting)
    (hnext : next = .opening ∨ next = .airing ∨ next = .retracting) :
    (leaveStage r ph (.goto next) s).prog.phase.map (·.stage) = some next := by
  have hentered : leaveStage r ph (.goto next) s =
      if next = .opening then enterOpening s else if next = .airing then enterAiring r s else enterRetracting s := by
    rcases hdry with h | h | h | h <;> rcases hnext with rfl | rfl | rfl <;> simp [leaveStage, h]
  rw [hentered]
  rcases hnext with rfl | rfl | rfl <;> simp [hphase]

/-! #### The end of a phase (R5, R13, R15) -/

/-- DRAINING and RETRACTING end the phase DONE; DRAINING clears the tank-wet flag with it (R13, R15, R18). -/
theorem leaveStage_ends {r : PhaseRecord} {s : State} {ph : RunningPhase} {e : StageEnd} :
    (ph.stage = .draining →
        leaveStage r ph e s = nextOrEnd (endPhase .done (s.onProg fun p => { p with tankWet := false }))) ∧
      (ph.stage = .retracting → e = .done → leaveStage r ph e s = nextOrEnd (endPhase .done s)) := by
  refine ⟨fun h => by simp [leaveStage, h], ?_⟩
  rintro h rfl
  simp [leaveStage, h]

@[simp] theorem endPhase_drain (e : PhaseEnding) (s : State) : (endPhase e s).therm.drain = s.therm.drain := by
  simp only [endPhase]
  repeat' split
  all_goals simp [endCirculation]

/-- A phase that ends DONE: PHASE_DONE, its record leaves the queue, nothing is left of it (R5, R15). -/
theorem endPhase_done {s : State} {r : PhaseRecord} {ph : RunningPhase} (hrun : runningPhase s = some (r, ph)) :
    (endPhase .done s).prog.queue = s.prog.queue.tail ∧ (endPhase .done s).prog.phase = none ∧
      ∀ p k, ((endPhase .done s).notes.get p).count k =
        if k = .phaseDone then min 15 ((s.notes.get p).count k + 1) else (s.notes.get p).count k := by
  obtain ⟨-, hphase, rest, hqueue⟩ := runningPhase_parts hrun
  obtain ⟨hrest, hnone, -, -, -, -, -, -, -, -, -, hcount, -⟩ := endPhase_spec s .done ph r rest hphase hqueue
  exact ⟨by rw [hrest, hqueue]; rfl, hnone, by simpa using hcount⟩

/-- After the last phase the program ends in IDLE with PROGRAM_END (R15). -/
theorem nextOrEnd_of_nil {s : State} (h : s.prog.queue = []) :
    nextOrEnd s = raiseAll .programEnd (s.onProg fun p => { p with state := .idle }) := by
  simp only [nextOrEnd, h]

/-- Before it the next head begins in its first stage (R5). -/
theorem nextOrEnd_of_cons {s : State} {r : PhaseRecord} {rest : List PhaseRecord} (h : s.prog.queue = r :: rest) :
    nextOrEnd s = beginPhase false s := by
  simp only [nextOrEnd, h]

/-- The head record's first stage (R19). -/
theorem beginPhase_stage (first : Bool) {s : State} {r : PhaseRecord} {rest : List PhaseRecord}
    (hqueue : s.prog.queue = r :: rest) :
    (beginPhase first s).prog.phase.map (·.stage) = some (if r.kind.wet = true then .filling else .dryWait) ∧
      (r.kind.wet = true → ∃ x, (beginPhase first s).prog.phase = some x ∧ x.stage = .filling ∧ x.stageEnd = none) := by
  rw [beginPhase_eq first hqueue]
  cases r.kind.wet <;> simp [phaseBegun]

/-- What the end of a phase leaves (R5, R13, R15). -/
theorem nextOrEnd_endPhase_spec {s : State} {r : PhaseRecord} {ph : RunningPhase}
    (hrun : runningPhase s = some (r, ph)) :
    (nextOrEnd (endPhase .done s)).prog.queue = s.prog.queue.tail ∧
      (∀ p, ((nextOrEnd (endPhase .done s)).notes.get p).count .phaseDone =
        min 15 ((s.notes.get p).count .phaseDone + 1)) ∧
      (s.prog.queue.tail = [] → (nextOrEnd (endPhase .done s)).prog.state = .idle ∧
        (nextOrEnd (endPhase .done s)).prog.phase = none ∧
        (nextOrEnd (endPhase .done s)).prog.soilClass = s.prog.soilClass ∧
        ∀ p, ((nextOrEnd (endPhase .done s)).notes.get p).count .programEnd =
          min 15 ((s.notes.get p).count .programEnd + 1)) ∧
      (∀ r2 rest, s.prog.queue.tail = r2 :: rest → (nextOrEnd (endPhase .done s)).prog.state = .running ∧
        (nextOrEnd (endPhase .done s)).prog.phase.map (·.stage) =
          some (if r2.kind.wet = true then .filling else .dryWait) ∧
        ∀ p, ((nextOrEnd (endPhase .done s)).notes.get p).count .programEnd = (s.notes.get p).count .programEnd) := by
  obtain ⟨hstate, -⟩ := runningPhase_parts hrun
  obtain ⟨hqueue, hphase, hcount⟩ := endPhase_done hrun
  refine ⟨by simp [hqueue], ?_, fun hnil => ?_, fun r2 rest hcons => ?_⟩
  · cases htail : s.prog.queue.tail with
    | nil =>
      rw [nextOrEnd_of_nil (hqueue.trans htail)]
      simp [hcount]
    | cons r2 rest =>
      rw [nextOrEnd_of_cons (hqueue.trans htail)]
      simp [hcount]
  · rw [nextOrEnd_of_nil (hqueue.trans hnil)]
    simp [hcount, hphase]
  · have hhead := hqueue.trans hcons
    rw [nextOrEnd_of_cons hhead, (beginPhase_stage false hhead).1]
    simp [hcount, hstate]

/-! #### A command that leads through one stage transition -/

/-- Neither FILLING nor DRAINING has demands of its own; a suspension drops the heater's (R22, R55). -/
theorem placeDemands_without {s : State}
    (h : ∀ r ph, runningPhase s = some (r, ph) → ph.stage = .filling ∨ ph.stage = .draining) :
    (placeDemands s).prog = s.prog ∧ (placeDemands s).notes = s.notes ∧
      (placeDemands s).therm.drain = s.therm.drain := by
  simp only [placeDemands]
  cases hrun : runningPhase s with
  | none => simp
  | some x =>
    obtain ⟨r, ph⟩ := x
    rcases h r ph hrun with hstage | hstage <;> simp only [hstage]
    all_goals
      simp only [reduceCtorEq, if_false]
      split
      · simp [dropHeating]
      · split <;> simp

/-- An event that ends the stage with the door closed, the rod home and no cause in the set takes one transition, when
it leads to FILLING, to DRAINING or out of RUNNING (R21). -/
theorem finish_of_one_transition {s : State} {r : PhaseRecord} {ph : RunningPhase} {e : StageEnd}
    (hrun : runningPhase s = some (r, ph)) (hend : ph.stageEnd = some e) (hfree : suspended s = false)
    (hdoor : doorClosed s = true) (hhome : rodHome s = true)
    (hopen : ∀ r' ph', runningPhase (leaveStage r ph e s) = some (r', ph') →
      ph'.stageEnd = none ∧ (ph'.stage = .filling ∨ ph'.stage = .draining)) :
    ∃ u, finish s = followOutputs u ∧ u.prog = (leaveStage r ph e s).prog ∧ u.notes = (leaveStage r ph e s).notes ∧
      u.therm.drain = (leaveStage r ph e s).therm.drain ∧ u.sup = s.sup := by
  obtain ⟨v, hv⟩ : ∃ v, v = leaveStage r ph e s := ⟨_, rfl⟩
  rw [← hv] at hopen ⊢
  have hstays : ∀ n (w : State), w.prog = v.prog → runStages n w = w := by
    intro n w hw
    have hsame : runningPhase w = runningPhase v := by simp [runningPhase, hw]
    cases hnext : runningPhase v with
    | none => exact runStages_of_no_phase n w (hsame.trans hnext)
    | some x => exact runStages_of_open n w x.1 x.2 (hsame.trans hnext) (hopen x.1 x.2 hnext).1
  have hfirst : runStages stageFuel s = v := by
    show runStages (11 + 1) s = v
    rw [runStages, hrun]
    simp only [hend, hfree, Option.isSome_some, Bool.not_false, Bool.and_self, if_true, stepStage_of_end hrun hend hfree]
    rw [← hv, hstays 11 v rfl]
  obtain ⟨hprog, hnotes, hdrain⟩ := placeDemands_without fun r' ph' h => (hopen r' ph' h).2
  refine ⟨endMetWash (placeDemands v), ?_, by simp [hprog], by simp [hnotes], by simp [hdrain], ?_⟩
  · rw [finish, watchDoor_of_home hdoor hhome, hfirst, hstays _ _ hprog]
  · simp [hv]

/-- The end of HOLDING is reported (R59). -/
theorem holdingOver_running {s : State} {r : PhaseRecord} {ph : RunningPhase} (x : Turbidity)
    (hrun : runningPhase s = some (r, ph)) (hopen : ph.stageEnd = none) :
    ∃ ph', runningPhase (holdingOver x r s) = some (r, ph') ∧ ph'.stage = ph.stage ∧ ph'.stageEnd = some .finished := by
  obtain ⟨hstate, hphase, rest, hqueue⟩ := runningPhase_parts hrun
  have hended : ∃ ph', (holdingOver x r s).prog.phase = some ph' ∧ ph'.stage = ph.stage ∧
      ph'.stageEnd = some .finished := by
    simp only [holdingOver, takeSoilSample]
    repeat' split
    all_goals simp [reportEnd, hphase, hopen]
  obtain ⟨ph', hphase', hstage, hend⟩ := hended
  exact ⟨ph', runningPhase_eq (rest := rest) (by simp [hstate]) hphase' (by simp [hqueue]), hstage, hend⟩

/-- The hold timer's expiry leads to DRAINING (R19, R59). -/
theorem holdTimerExpiry_drains {s : State} {r : PhaseRecord} {ph : RunningPhase} (x : Turbidity)
    (hrun : runningPhase s = some (r, ph)) (hopen : ph.stageEnd = none) (hfree : suspended s = false)
    (hdoor : doorClosed s = true) (hhome : rodHome s = true) (hstage : ph.stage = .holding)
    (hhold : s.therm.hold ≠ none) :
    ∃ t, exec (.holdTimerExpiry x) s = .next t ∧
      t.prog.phase.map (·.stage) = some .draining ∧ t.prog.queue = s.prog.queue ∧
      t.therm.drain = some ⟨.phase, if levelWater s then .pumping else .tailing, 0, 0, r.regenWindow⟩ := by
  have hruns : holdRuns s = true := by
    simp [holdRuns, stageOpen_of_running hrun, hstage, hopen, hfree, Option.isSome_iff_ne_none.2 hhold]
  have hexec : exec (.holdTimerExpiry x) s = .next (finish (holdingOver x r s)) := by
    show Host.Outcome.next (holdExpiry x s) = _
    simp [holdExpiry, hrun, hruns]
  obtain ⟨ph', hrun', hstage', hend⟩ := holdingOver_running x hrun hopen
  have hleave : leaveStage r ph' .finished (holdingOver x r s) = enterDraining r (holdingOver x r s) := by
    simp [leaveStage, hstage', hstage]
  obtain ⟨-, hphase', -⟩ := runningPhase_parts hrun'
  obtain ⟨u, hu, hprog, -, hdrain, -⟩ := finish_of_one_transition hrun' hend (by simpa [suspended] using hfree)
    (by simpa [doorClosed] using hdoor) (by simpa [rodHome, inHomeTrack] using hhome) (by
      rw [hleave]
      intro r₂ ph₂ h
      obtain ⟨-, hphase₂, -⟩ := runningPhase_parts h
      simp only [enterDraining_keepsProg, hphase', Option.map_some, Option.some.injEq] at hphase₂
      simp [← hphase₂])
  rw [hleave] at hprog hdrain
  have hlevel : levelWater (holdingOver x r s) = levelWater s := by simp [levelWater]
  refine ⟨_, hexec, ?_, ?_, ?_⟩
  · simp [hu, hprog, hphase']
  · simp [hu, hprog]
  · rw [hu, (followOutputs_leaves_tank u).1, hdrain, enterDraining_therm, hlevel]

/-- What O32 asks of the state at the tail expiry of a running DRAINING stage. -/
structure DrainTailEnds (s : State) (r : PhaseRecord) (ph : RunningPhase) (j : DrainJob) : Prop where
  run : runningPhase s = some (r, ph)
  unreported : ph.stageEnd = none
  free : suspended s = false
  door : doorClosed s = true
  home : rodHome s = true
  stage : ph.stage = .draining
  job : s.therm.drain = some j
  kind : j.kind = .phase
  tailing : j.state = .tailing
  noExtension : extension s = false

/-- The drain is over, with its end reported and the tank-wet flag cleared (R13, R68). -/
def drainOver (s : State) : State := (completeDrain s).onProg fun p => { p with tankWet := false }

theorem drainOver_prog {s : State} {r : PhaseRecord} {ph : RunningPhase} {j : DrainJob} (h : DrainTailEnds s r ph j) :
    (drainOver s).prog =
        { s.prog with phase := some { ph with stageEnd := some .finished }, tankWet := false } ∧
      (drainOver s).notes = s.notes ∧ (drainOver s).therm.drain = none ∧
      runningPhase (completeDrain s) = some (r, { ph with stageEnd := some .finished }) := by
  obtain ⟨hstate, -, rest, hqueue⟩ := runningPhase_parts h.run
  obtain ⟨htherm, hnotes, -, hreported⟩ := completeDrain_spec s j h.job
  have hprog := hreported r ph h.kind h.run h.stage h.unreported
  exact ⟨by simp [drainOver, hprog], hnotes, by simp [drainOver, htherm],
    by simp [runningPhase, hprog, hstate, hqueue]⟩

theorem drainOver_running {s : State} {r : PhaseRecord} {ph : RunningPhase} {j : DrainJob} (h : DrainTailEnds s r ph j) :
    runningPhase (drainOver s) = some (r, { ph with stageEnd := some .finished }) :=
  (drainOver_prog h).2.2.2

/-- The drain's tail expiry ends the phase DONE, and the next one, when it is wet, is in FILLING (R5, R15, R68, R69). -/
theorem drainTailExpiry_ends_phase {s : State} {r : PhaseRecord} {ph : RunningPhase} {j : DrainJob}
    (h : DrainTailEnds s r ph j) (hwet : ∀ r2 rest, s.prog.queue.tail = r2 :: rest → r2.kind.wet = true) :
    ∃ u, exec .drainTailExpiry s = .next (followOutputs u) ∧
      u.prog = (nextOrEnd (endPhase .done (drainOver s))).prog ∧
      u.notes = (nextOrEnd (endPhase .done (drainOver s))).notes ∧ u.therm.drain = none ∧ u.sup = s.sup := by
  have hruns : tailRuns s = true := by simp [tailRuns, h.job, h.tailing, drainHeld, h.kind, h.free]
  have hexec : exec .drainTailExpiry s = .next (finish (completeDrain s)) := by
    show Host.Outcome.next (drainTailExpiry s) = _
    simp [drainTailExpiry, hruns, h.noExtension]
  obtain ⟨hprog, -, hdrain, hrun⟩ := drainOver_prog h
  have hleave : leaveStage r { ph with stageEnd := some .finished } .finished (completeDrain s) =
      nextOrEnd (endPhase .done (drainOver s)) := leaveStage_ends.1 h.stage
  have hqueue : (drainOver s).prog.queue = s.prog.queue := by rw [hprog]
  obtain ⟨hleft, -⟩ := endPhase_done (drainOver_running h)
  obtain ⟨-, -, hnil, -⟩ := nextOrEnd_endPhase_spec (drainOver_running h)
  obtain ⟨u, hu, huprog, hunotes, hudrain, husup⟩ := finish_of_one_transition hrun rfl
    (by simpa [suspended] using h.free) (by simpa [doorClosed] using h.door)
    (by simpa [rodHome, inHomeTrack] using h.home) (by
      rw [hleave]
      intro r₂ ph₂ hrun₂
      obtain ⟨hstate₂, hphase₂, -⟩ := runningPhase_parts hrun₂
      cases htail : s.prog.queue.tail with
      | nil =>
        obtain ⟨hidle, -⟩ := hnil (by rw [hqueue, htail])
        simp [hidle] at hstate₂
      | cons r2 rest =>
        have hhead := hleft.trans (by rw [hqueue, htail])
        obtain ⟨x, hx, hstage, hend⟩ := (beginPhase_stage false hhead).2 (hwet r2 rest htail)
        rw [nextOrEnd_of_cons hhead, hx] at hphase₂
        obtain rfl := Option.some.inj hphase₂
        exact ⟨hend, .inl hstage⟩)
  rw [hleave] at huprog hunotes hudrain
  exact ⟨u, by rw [hexec, hu], huprog, hunotes, by simp [hudrain, hdrain], by simp [husup]⟩

/-- The drain's tail expiry of the last phase ends the program (R15). -/
theorem drainTailExpiry_of_last {s : State} {r : PhaseRecord} {ph : RunningPhase} {j : DrainJob}
    (h : DrainTailEnds s r ph j) (hlast : s.prog.queue = [r]) (hinlet : s.sup.overrides.inlet = false) :
    ∃ t, exec .drainTailExpiry s = .next t ∧ t.prog.state = .idle ∧ t.prog.queue = [] ∧
      t.prog.tankWet = false ∧ t.therm.drain = none ∧
      ∀ p, (t.notes.get p).count .phaseDone = min 15 ((s.notes.get p).count .phaseDone + 1) ∧
        (t.notes.get p).count .programEnd = min 15 ((s.notes.get p).count .programEnd + 1) := by
  obtain ⟨hprog, hnotes, -⟩ := drainOver_prog h
  have hnil : (drainOver s).prog.queue.tail = [] := by rw [hprog, hlast]; rfl
  obtain ⟨u, hexec, huprog, hunotes, hudrain, husup⟩ := drainTailExpiry_ends_phase h (by simp [hlast])
  obtain ⟨hqueue, hdone, hends, -⟩ := nextOrEnd_endPhase_spec (drainOver_running h)
  obtain ⟨hidle, -, -, hend⟩ := hends hnil
  obtain ⟨hdrain, htank⟩ := followOutputs_leaves_tank u
  have hstopped : runningPhase u = none := runningPhase_of_not_running (by simp [huprog, hidle])
  refine ⟨_, hexec, ?_, ?_, ?_, by rw [hdrain, hudrain], fun p => ?_⟩
  · simp [huprog, hidle]
  · simp only [followOutputs_keepsProg, huprog, hqueue, hnil]
  · rw [htank hstopped (by rw [husup, hinlet]), huprog]
    simp [hprog]
  · simp only [followOutputs_keeps, hunotes, hdone p, hend p, hnotes, and_self]

/-- Before it, with a wet phase next, it leads to FILLING (R5). -/
theorem drainTailExpiry_of_next {s : State} {r r2 : PhaseRecord} {rest : List PhaseRecord} {ph : RunningPhase}
    {j : DrainJob} (h : DrainTailEnds s r ph j) (hqueue : s.prog.queue = r :: r2 :: rest)
    (hwet : r2.kind.wet = true) :
    ∃ t, exec .drainTailExpiry s = .next t ∧ t.prog.state = .running ∧ t.prog.queue = r2 :: rest ∧
      t.prog.phase.map (·.stage) = some .filling := by
  obtain ⟨hprog, -⟩ := drainOver_prog h
  have hcons : (drainOver s).prog.queue.tail = r2 :: rest := by rw [hprog, hqueue]; rfl
  obtain ⟨u, hexec, huprog, -⟩ := drainTailExpiry_ends_phase h (by
    rw [hqueue]
    rintro _ _ ⟨⟩
    exact hwet)
  obtain ⟨hleft, -, -, hgoes⟩ := nextOrEnd_endPhase_spec (drainOver_running h)
  obtain ⟨hrunning, hstage, -⟩ := hgoes r2 rest hcons
  refine ⟨_, hexec, ?_, ?_, ?_⟩
  · simp [huprog, hrunning]
  · simp only [followOutputs_keepsProg, huprog, hleft, hcons]
  · simp only [followOutputs_keepsProg, huprog, hstage, hwet, if_true]

/-! #### The obligation -/

/-- The transition out of DRAINING, and out of RETRACTING without a retract to come (R5, R13, R15). -/
theorem stepStage_ends_phase {s : State} {r : PhaseRecord} {ph : RunningPhase} {e : StageEnd}
    (hrun : runningPhase s = some (r, ph)) (hend : ph.stageEnd = some e) (hfree : suspended s = false) :
    (ph.stage = .draining → (stepStage s).prog.tankWet = false) ∧
      (ph.stage = .draining ∨ (ph.stage = .retracting ∧ e = .done) →
        (stepStage s).prog.queue = s.prog.queue.tail ∧
        (∀ p, ((stepStage s).notes.get p).count .phaseDone = min 15 ((s.notes.get p).count .phaseDone + 1)) ∧
        (s.prog.queue.tail = [] → (stepStage s).prog.state = .idle ∧ (stepStage s).prog.phase = none ∧
          (stepStage s).prog.soilClass = s.prog.soilClass ∧
          ∀ p, ((stepStage s).notes.get p).count .programEnd =
            min 15 ((s.notes.get p).count .programEnd + 1)) ∧
        (∀ r2 rest, s.prog.queue.tail = r2 :: rest → (stepStage s).prog.state = .running ∧
          (stepStage s).prog.phase.map (·.stage) = some (if r2.kind.wet = true then .filling else .dryWait) ∧
          ∀ p, ((stepStage s).notes.get p).count .programEnd = (s.notes.get p).count .programEnd)) := by
  rw [stepStage_of_end hrun hend hfree]
  obtain ⟨hdrained, hretracted⟩ := leaveStage_ends (r := r) (s := s) (ph := ph) (e := e)
  refine ⟨fun h => by simp [hdrained h], ?_⟩
  rintro (h | ⟨h, he⟩)
  · rw [hdrained h]
    exact nextOrEnd_endPhase_spec (s := s.onProg fun p => { p with tankWet := false }) hrun
  · rw [hretracted h he]
    exact nextOrEnd_endPhase_spec hrun

/-- Settles O32. -/
theorem stagesFollowTheirOrder : Obligations.StagesFollowTheirOrder := by
  unfold Obligations.StagesFollowTheirOrder
  refine ⟨fun s r ph hrun => finish_waits hrun, fun s r ph hrun => ⟨?_, fun e hend hfree => ?_⟩,
    fun s r ph hrun hopen hfree hdoor hhome =>
      ⟨fun x hstage hhold => holdTimerExpiry_drains x hrun hopen hfree hdoor hhome hstage hhold, ?_⟩⟩
  · rintro (hopen | hsuspended)
    · simp [stepStage, hrun, hopen]
    · simp only [stepStage, hrun, hsuspended, if_true]
      split <;> rfl
  · obtain ⟨hdrained, hended⟩ := stepStage_ends_phase hrun hend hfree
    obtain ⟨-, hphase, -⟩ := runningPhase_parts hrun
    have hstep := stepStage_of_end hrun hend hfree
    refine ⟨fun hstage hdoses => ?_, fun hstage => ?_, fun hstage => ?_, fun hstage => ?_, ?_, hdrained, hended⟩
    · have hleave : leaveStage r ph e s = enterAfterFilling r s := by simp [leaveStage, hstage]
      rw [hstep, hleave]
      exact enterAfterFilling_of_doses hphase hdoses
    · rw [hstep]
      rcases hstage with hstage | ⟨hstage, hdoses⟩
      · have hleave : leaveStage r ph e s = enterHeating r s := by simp [leaveStage, hstage]
        rw [hleave]
        exact enterHeating_phase r hphase
      · have hleave : leaveStage r ph e s = enterHeating r (startCirculation r s) := by
          simp [leaveStage, hstage, enterAfterFilling, hdoses]
        have hheated := enterHeating_phase r (s := startCirculation r s) (by simpa using hphase)
        rw [hleave]
        simpa using hheated
    · have hleave : leaveStage r ph e s = enterHolding r s := by simp [leaveStage, hstage]
      rw [hstep, hleave]
      obtain ⟨x, hx, hholding, hheated, -⟩ := enterHolding_phase r hphase
      exact ⟨⟨x, hx, hholding, hheated⟩, fun htime => by rw [enterHolding_spec r s ph hphase htime]⟩
    · have hleave : leaveStage r ph e s = enterDraining r s := by simp [leaveStage, hstage]
      rw [hstep, hleave]
      exact ⟨⟨{ ph with stage := .draining, stageEnd := none }, by simp [hphase], rfl, rfl⟩, enterDraining_therm r s⟩
    · rintro hdry next rfl hnext
      rw [hstep]
      exact leaveStage_goto hphase hdry hnext
  · intro j hstage hjob hkind htail hext
    have hends : DrainTailEnds s r ph j := ⟨hrun, hopen, hfree, hdoor, hhome, hstage, hjob, hkind, htail, hext⟩
    exact ⟨drainTailExpiry_of_last hends, fun r2 rest => drainTailExpiry_of_next hends⟩

end Sys2Proof.Machine
end

section
/-!
PROOFS, heating, circulation and drain (spec/03). What the operations keep of the thermal unit's readings and of its faults.
-/

namespace Sys2Proof.Machine

/-! ### The readings and the faults of the thermal unit

The stages move the heater, the circulation and the drain job. What the unit has read, and whether its faults stand, is
moved by its own events alone: the lemmas below say so of every operation of `finish`. -/

/-- What the thermal unit holds of its sensors and of the diverter's motion (R52, R60, R64, R67). -/
structure Readings where
  raw : Option Nat
  working : Option Nat
  outTimer : Option Nat
  latch : Bool
  slowCount : Nat
  position : Option (Fin 4)
  divStall : Nat

def Thermal.readings (t : Thermal) : Readings :=
  ⟨t.raw, t.working, t.outTimer, t.latch, t.slowCount, t.position, t.divStall⟩

@[simp] theorem Thermal.readings_mk (raw working outTimer latch regulator rise slowCount hold position wanted alternate
    divStall drain) :
    Thermal.readings ⟨raw, working, outTimer, latch, regulator, rise, slowCount, hold, position, wanted, alternate,
      divStall, drain⟩ = ⟨raw, working, outTimer, latch, slowCount, position, divStall⟩ := rfl

@[simp] theorem Thermal.readings_eta (t : Thermal) :
    (⟨t.raw, t.working, t.outTimer, t.latch, t.slowCount, t.position, t.divStall⟩ : Readings) = t.readings := rfl

/-- The thermal unit's faults among the standing ones (R53, R58, R67). -/
def Standing.thermal (x : Standing) : Bool × Bool × Bool := (x.sensorTemp, x.heater, x.diverterStall)

@[simp] theorem Standing.thermal_mk (sensorTemp heater diverterStall encoder referenceFail rodStuck pumpD pumpR soilSensor
    inletLeak) :
    Standing.thermal ⟨sensorTemp, heater, diverterStall, encoder, referenceFail, rodStuck, pumpD, pumpR, soilSensor,
      inletLeak⟩ = (sensorTemp, heater, diverterStall) := rfl

@[simp] theorem Standing.thermal_eta (x : Standing) : (x.sensorTemp, x.heater, x.diverterStall) = x.thermal := rfl

@[simp] theorem raiseAll_standing (k : NoticeKind) (s : State) :
    (raiseAll k s).notes.standing = s.notes.standing := rfl

@[simp] theorem logFault_standing (code : FaultCode) (source : FaultSource) (detail : Option Int) (s : State) :
    (logFault code source detail s).notes.standing = s.notes.standing := rfl

@[simp] theorem onStanding_standing (f : Standing → Standing) (s : State) :
    (onStanding f s).notes.standing = f s.notes.standing := rfl

@[simp] theorem placeResult_standing (r : ResultRecord) (s : State) :
    (placeResult r s).notes.standing = s.notes.standing := by
  simp [placeResult]

/-! #### Readings through the stages -/

@[simp] theorem targetReached_readings (s : State) : (targetReached s).therm.readings = s.therm.readings := by
  simp [targetReached]

@[simp] theorem placeHeating_readings (target : Nat) (s : State) :
    (placeHeating target s).therm.readings = s.therm.readings := by
  simp only [placeHeating]
  repeat' split
  all_goals simp

@[simp] theorem placeHolding_readings (target : Nat) (s : State) :
    (placeHolding target s).therm.readings = s.therm.readings := by
  simp [placeHolding]

@[simp] theorem dropHeating_readings (s : State) : (dropHeating s).therm.readings = s.therm.readings := by
  simp [dropHeating]

@[simp] theorem startAlternate_readings (s : State) : (startAlternate s).therm.readings = s.therm.readings := by
  simp only [startAlternate]
  split <;> simp

@[simp] theorem startCirculation_readings (r : PhaseRecord) (s : State) :
    (startCirculation r s).therm.readings = s.therm.readings := by
  simp [startCirculation]

@[simp] theorem endCirculation_readings (s : State) : (endCirculation s).therm.readings = s.therm.readings := by
  simp [endCirculation]

@[simp] theorem createDrain_readings (kind : DrainKind) (window : Bool) (s : State) :
    (createDrain kind window s).therm.readings = s.therm.readings := by
  simp [createDrain]

@[simp] theorem holdingOver_therm (x : Turbidity) (r : PhaseRecord) (s : State) :
    (holdingOver x r s).therm = { s.therm with hold := none, regulator := none } := by
  simp only [holdingOver]
  split <;> simp

@[simp] theorem enterHolding_readings (r : PhaseRecord) (s : State) :
    (enterHolding r s).therm.readings = s.therm.readings := by
  simp only [enterHolding]
  repeat' split
  all_goals simp

@[simp] theorem enterHeating_readings (r : PhaseRecord) (s : State) :
    (enterHeating r s).therm.readings = s.therm.readings := by
  simp only [enterHeating]
  repeat' split
  all_goals simp

@[simp] theorem enterAfterFilling_readings (r : PhaseRecord) (s : State) :
    (enterAfterFilling r s).therm.readings = s.therm.readings := by
  simp only [enterAfterFilling]
  split <;> simp

@[simp] theorem enterDraining_readings (r : PhaseRecord) (s : State) :
    (enterDraining r s).therm.readings = s.therm.readings := by
  simp [enterDraining]

@[simp] theorem endPhase_readings (e : PhaseEnding) (s : State) :
    (endPhase e s).therm.readings = s.therm.readings := by
  simp only [endPhase]
  repeat' split
  all_goals simp

@[simp] theorem leaveStage_readings (r : PhaseRecord) (ph : RunningPhase) (e : StageEnd) (s : State) :
    (leaveStage r ph e s).therm.readings = s.therm.readings := by
  simp only [leaveStage]
  split <;> simp

@[simp] theorem stepStage_readings (s : State) : (stepStage s).therm.readings = s.therm.readings := by
  simp only [stepStage]
  repeat' split
  all_goals simp

@[simp] theorem runStages_readings (n : Nat) (s : State) : (runStages n s).therm.readings = s.therm.readings := by
  induction n generalizing s with
  | zero => simp [runStages]
  | succ n ih =>
    simp only [runStages]
    repeat' split
    all_goals simp [ih]

@[simp] theorem placeDemands_readings (s : State) : (placeDemands s).therm.readings = s.therm.readings := by
  simp only [placeDemands]
  repeat' split
  all_goals simp

/-- The stall timer is zero while the diverter's motor is off; nothing else that the thermal unit has read follows from the
outputs (R67). -/
theorem followOutputs_readings (s : State) :
    { (followOutputs s).therm.readings with divStall := s.therm.divStall } = s.therm.readings :=
  congrArg Thermal.readings (followOutputs_therm s)

theorem followOutputs_divStall_zero {s : State} (h : s.therm.divStall = 0) : (followOutputs s).therm.divStall = 0 := by
  simp only [followOutputs, zeroDivStall]
  repeat' split
  all_goals simp [h]

/-- What the thermal unit has read stands through the end of an event; the diverter's stall timer may only be put to zero
(R67). -/
theorem finish_readings (s : State) :
    { (finish s).therm.readings with divStall := s.therm.divStall } = s.therm.readings ∧
      (s.therm.divStall = 0 → (finish s).therm.divStall = 0) := by
  have hstages : (endMetWash (runStages stageFuel (placeDemands (runStages stageFuel (watchDoor s))))).therm.readings =
      s.therm.readings := by simp
  have hstall := congrArg Readings.divStall hstages
  refine ⟨?_, fun h => followOutputs_divStall_zero (hstall.trans h)⟩
  have hout := (followOutputs_readings _).trans hstages
  rwa [show Thermal.divStall _ = s.therm.divStall from hstall] at hout

@[simp] theorem finish_reading (s : State) :
    (finish s).therm.raw = s.therm.raw ∧ (finish s).therm.working = s.therm.working ∧
      (finish s).therm.outTimer = s.therm.outTimer ∧ (finish s).therm.latch = s.therm.latch ∧
      (finish s).therm.position = s.therm.position := by
  obtain ⟨h, -⟩ := finish_readings s
  exact ⟨congrArg Readings.raw h, congrArg Readings.working h, congrArg Readings.outTimer h, congrArg Readings.latch h,
    congrArg Readings.position h⟩

/-! #### Standing faults through the stages -/

@[simp] theorem takeSoilSample_thermal (x : Turbidity) (s : State) :
    (takeSoilSample x s).notes.standing.thermal = s.notes.standing.thermal := by
  simp only [takeSoilSample, soilReading]
  repeat' split
  all_goals simp

@[simp] theorem holdingOver_thermal (x : Turbidity) (r : PhaseRecord) (s : State) :
    (holdingOver x r s).notes.standing.thermal = s.notes.standing.thermal := by
  simp only [holdingOver]
  split <;> simp

@[simp] theorem enterHolding_thermal (r : PhaseRecord) (s : State) :
    (enterHolding r s).notes.standing.thermal = s.notes.standing.thermal := by
  simp only [enterHolding]
  repeat' split
  all_goals simp

@[simp] theorem enterHeating_thermal (r : PhaseRecord) (s : State) :
    (enterHeating r s).notes.standing.thermal = s.notes.standing.thermal := by
  simp only [enterHeating]
  repeat' split
  all_goals simp

@[simp] theorem nextStroke_standing (s : State) : (nextStroke s).notes.standing = s.notes.standing := by
  simp only [nextStroke]
  repeat' split
  all_goals simp

@[simp] theorem enterAfterFilling_thermal (r : PhaseRecord) (s : State) :
    (enterAfterFilling r s).notes.standing.thermal = s.notes.standing.thermal := by
  simp only [enterAfterFilling]
  split <;> simp

@[simp] theorem askApproach_thermal (client : MotionClient) (s : State) :
    (askApproach client s).notes.standing.thermal = s.notes.standing.thermal := by
  simp only [askApproach, referencedEnd]
  repeat' split
  all_goals simp

@[simp] theorem enterRetracting_thermal (s : State) :
    (enterRetracting s).notes.standing.thermal = s.notes.standing.thermal := by
  simp only [enterRetracting, decideRetract, decideUnreferenced]
  repeat' split
  all_goals simp

@[simp] theorem endPhase_standing (e : PhaseEnding) (s : State) :
    (endPhase e s).notes.standing = s.notes.standing := by
  simp only [endPhase]
  repeat' split
  all_goals simp

@[simp] theorem nextOrEnd_standing (s : State) : (nextOrEnd s).notes.standing = s.notes.standing := by
  simp only [nextOrEnd]
  split <;> simp

@[simp] theorem leaveStage_thermal (r : PhaseRecord) (ph : RunningPhase) (e : StageEnd) (s : State) :
    (leaveStage r ph e s).notes.standing.thermal = s.notes.standing.thermal := by
  simp only [leaveStage]
  split <;> simp

@[simp] theorem runStages_thermal (n : Nat) (s : State) :
    (runStages n s).notes.standing.thermal = s.notes.standing.thermal := by
  induction n generalizing s with
  | zero => simp [runStages]
  | succ n ih =>
    simp only [runStages, stepStage]
    repeat' split
    all_goals simp [ih]

@[simp] theorem placeDemands_standing (s : State) : (placeDemands s).notes.standing = s.notes.standing := by
  simp only [placeDemands]
  repeat' split
  all_goals simp

/-- The end of an event neither sets nor removes a fault of the thermal unit (R193). -/
@[simp] theorem finish_thermal (s : State) :
    (finish s).notes.standing.sensorTemp = s.notes.standing.sensorTemp ∧
      (finish s).notes.standing.diverterStall = s.notes.standing.diverterStall := by
  have h : (finish s).notes.standing.thermal = s.notes.standing.thermal := by simp [finish]
  simp only [Standing.thermal, Prod.mk.injEq] at h
  obtain ⟨hsensor, -, hdiverter⟩ := h
  exact ⟨hsensor, hdiverter⟩

end Sys2Proof.Machine
end

section
namespace Sys2Proof.Machine

/-! ### O20: temperature readings -/

/-- Only the program's state, phase and queue tell the running phase (R4). -/
@[simp] theorem runningPhase_onTherm (f : Thermal → Thermal) (s : State) :
    runningPhase (s.onTherm f) = runningPhase s := rfl

/-- An update of the running phase (R4). -/
theorem onPhase_of_running {s : State} {r : PhaseRecord} {ph : RunningPhase} (hrun : runningPhase s = some (r, ph))
    (f : RunningPhase → RunningPhase) : onPhase f s = { s with prog := { s.prog with phase := some (f ph) } } := by
  obtain ⟨-, hphase, -⟩ := runningPhase_parts hrun
  simp [onPhase, State.onProg, hphase]

/-! #### The raw reading -/

/-- A sensor value is held to 0.0..100.0 °C (R52). -/
theorem readingOf_eq (x : Int) : readingOf x = (max 0 (min 200 x)).toNat := by
  simp only [readingOf]
  omega

theorem inRange_readingOf (x : Int) : inRange (readingOf x) = decide (4 ≤ x ∧ x ≤ 196) := by
  rw [inRange, ← Bool.decide_and, decide_eq_decide, readingOf]
  omega

theorem readingOf_of_inRange {x : Int} (hlow : 4 ≤ x) (hhigh : x ≤ 196) : readingOf x = x.toNat := by
  simp only [readingOf]
  omega

/-- The limit latch, told by the sensor's value (R60). -/
theorem latchAfter_readingOf (x : Int) (latch : Bool) :
    latchAfter (readingOf x) latch = if 150 ≤ x then true else if x ≤ 140 then false else latch := by
  have hset : 150 ≤ readingOf x ↔ 150 ≤ x := by simp only [readingOf]; omega
  have hclear : readingOf x ≤ 140 ↔ x ≤ 140 := by simp only [readingOf]; omega
  simp only [latchAfter, hset, hclear]

/-- The raw reading with the latch and the out-of-range timer (R52, R53, R60). -/
theorem takeRaw_readingOf (x : Int) (s : State) :
    takeRaw (readingOf x) s = { s with therm := { s.therm with
      raw := some (max 0 (min 200 x)).toNat
      latch := if 150 ≤ x then true else if x ≤ 140 then false else s.therm.latch
      outTimer :=
        if 4 ≤ x ∧ x ≤ 196 then none
        else if s.notes.standing.sensorTemp = true then none
        else if s.therm.outTimer = none then some 0 else s.therm.outTimer } } := by
  simp only [takeRaw, State.onTherm, latchAfter_readingOf, inRange_readingOf, decide_eq_true_eq, ← readingOf_eq]
  cases s.therm.outTimer <;> simp

/-! #### The working temperature -/

@[simp] theorem stepHeater_readings (heating : Bool) (target w : Nat) (s : State) :
    (stepHeater heating target w s).therm.readings = s.therm.readings := by
  simp [stepHeater]

@[simp] theorem heatingReading_readings (target w : Nat) (s : State) :
    (heatingReading target w s).therm.readings = s.therm.readings := by
  simp only [heatingReading]
  repeat' split
  all_goals simp

/-- Of what the thermal unit has read an in-range reading changes the working temperature alone (R52). -/
theorem takeWorking_readings (w : Nat) (s : State) :
    (takeWorking w s).therm.readings = { s.therm.readings with working := some w } := by
  have htaken : ∀ t : Thermal, Thermal.readings { t with working := some w } = { t.readings with working := some w } :=
    fun _ => rfl
  simp only [takeWorking]
  repeat' split
  all_goals simp only [heatingReading_readings, stepHeater_readings, onPhase_keeps, State.onTherm_therm, htaken]

/-- A running phase with the working temperature taken and its peak kept (R52, R54). -/
def peakTaken (w : Nat) (ph : RunningPhase) (s : State) : State :=
  { s with therm := { s.therm with working := some w }
           prog := { s.prog with phase := some { ph with peak := max ph.peak w } } }

theorem runningPhase_peakTaken {s : State} {r : PhaseRecord} {ph : RunningPhase} (w : Nat)
    (hrun : runningPhase s = some (r, ph)) :
    runningPhase (peakTaken w ph s) = some (r, { ph with peak := max ph.peak w }) := by
  obtain ⟨hstate, -, rest, hqueue⟩ := runningPhase_parts hrun
  exact runningPhase_eq (rest := rest) hstate rfl hqueue

/-- A reading takes the running phase's peak first (R54). -/
theorem onPhase_peakTaken {s : State} {r : PhaseRecord} {ph : RunningPhase} (w : Nat)
    (hrun : runningPhase s = some (r, ph)) :
    onPhase (fun x => { x with peak := max x.peak w }) (s.onTherm fun t => { t with working := some w }) =
      peakTaken w ph s :=
  onPhase_of_running (s := s.onTherm fun t => { t with working := some w }) hrun _

/-- What a reading means to a running phase, once its peak is taken: the regulator's work in the two heated stages; a stage
without a regulator and a phase without a target keep theirs (R55, Table 3-1). -/
theorem takeWorking_of_running {s : State} {r : PhaseRecord} {ph : RunningPhase} (w : Nat)
    (hrun : runningPhase s = some (r, ph)) :
    (∀ target, ph.stage = .heating → r.heatTarget = some target →
        takeWorking w s = heatingReading target w (peakTaken w ph s)) ∧
      (∀ target, ph.stage = .holding → r.heatTarget = some target →
        takeWorking w s = stepHeater false target w (peakTaken w ph s)) ∧
      (r.heatTarget = none ∨ (ph.stage ≠ .heating ∧ ph.stage ≠ .holding) → takeWorking w s = peakTaken w ph s) := by
  simp only [takeWorking, runningPhase_onTherm, hrun, onPhase_peakTaken w hrun]
  refine ⟨fun target hstage htarget => ?_, fun target hstage htarget => ?_, fun hother => ?_⟩
  · simp only [hstage, htarget]
  · simp only [hstage, htarget]
  · split
    case h_3 => rfl
    all_goals simp_all

theorem takeWorking_idle {s : State} (w : Nat) (hrun : runningPhase s = none) :
    takeWorking w s = s.onTherm fun t => { t with working := some w } := by
  simp only [takeWorking, runningPhase_onTherm, hrun]

/-- A stage without a regulator, a HEATING already over, and a phase without a target keep theirs (Table 3-1). -/
theorem takeWorking_of_unregulated {s : State} {r : PhaseRecord} {ph : RunningPhase} (w : Nat)
    (hrun : runningPhase s = some (r, ph))
    (h : r.heatTarget = none ∨ (ph.stage ≠ .heating ∧ ph.stage ≠ .holding) ∨
      (ph.stage = .heating ∧ ph.stageEnd ≠ none)) : takeWorking w s = peakTaken w ph s := by
  obtain ⟨hheats, -, hkeeps⟩ := takeWorking_of_running w hrun
  rcases h with hnone | hother | ⟨hheating, hended⟩
  · exact hkeeps (.inl hnone)
  · exact hkeeps (.inr hother)
  · have hclosed : stageOpen (peakTaken w ph s) .heating = false := by
      simp [stageOpen_of_running (runningPhase_peakTaken w hrun), Option.isSome_iff_ne_none.2 hended]
    cases htarget : r.heatTarget with
    | none => exact hkeeps (.inl htarget)
    | some target => simp [hheats target hheating htarget, heatingReading, hclosed]

/-- "Target reached" is reported and kept: the phase has heated, the rise check stops (R56). -/
theorem targetReached_of_open {s : State} {ph : RunningPhase} (hphase : s.prog.phase = some ph)
    (hopen : ph.stageEnd = none) :
    targetReached s = { s with
      therm := { s.therm with rise := none }
      prog := { s.prog with phase := some { ph with heated := true, stageEnd := some .finished } } } := by
  simp [targetReached, reportEnd, onPhase, State.onTherm, State.onProg, hphase, hopen]

/-- A reading in a HEATING whose end is still open (R55 to R57). -/
theorem takeWorking_of_heating {s : State} {r : PhaseRecord} {ph : RunningPhase} {w target : Nat}
    (hrun : runningPhase s = some (r, ph)) (htarget : r.heatTarget = some target) (hstage : ph.stage = .heating)
    (hopen : ph.stageEnd = none) :
    (target ≤ w → takeWorking w s = targetReached (stepHeater true target w (peakTaken w ph s))) ∧
      (w < target → takeWorking w s =
        if s.therm.rise.isNone && !suspended s then
          (stepHeater true target w (peakTaken w ph s)).onTherm fun t => { t with rise := some ⟨0, w⟩ }
        else stepHeater true target w (peakTaken w ph s)) := by
  have hheating : stageOpen (peakTaken w ph s) .heating = true := by
    simp [stageOpen_of_running (runningPhase_peakTaken w hrun), hstage, hopen]
  rw [(takeWorking_of_running w hrun).1 target hstage htarget, heatingReading, if_pos hheating]
  exact ⟨fun hreached => if_pos hreached, fun hbelow => if_neg (Nat.not_le.2 hbelow)⟩

/-- In HEATING at or above the target the regulator is OFF and the end is reported (R55, R56). -/
theorem takeWorking_of_target_reached {s : State} {r : PhaseRecord} {ph : RunningPhase} {w target : Nat}
    (hrun : runningPhase s = some (r, ph)) (htarget : r.heatTarget = some target) (hstage : ph.stage = .heating)
    (hopen : ph.stageEnd = none) (hreached : target ≤ w) :
    takeWorking w s = { s with
      therm := { s.therm with
        working := some w, regulator := s.therm.regulator.map (fun _ => false), rise := none }
      prog := { s.prog with
        phase := some { ph with peak := max ph.peak w, heated := true, stageEnd := some .finished } } } := by
  have hoff : stepRegulator true target w = fun _ => false := by
    funext on
    simp [stepRegulator, hreached]
  rw [(takeWorking_of_heating hrun htarget hstage hopen).1 hreached,
    targetReached_of_open (ph := { ph with peak := max ph.peak w }) rfl hopen, stepHeater, hoff]
  rfl

/-- In HEATING below the target the regulator steps, and a first rise window starts (R55, R57). -/
theorem takeWorking_of_below_target {s : State} {r : PhaseRecord} {ph : RunningPhase} {w target : Nat}
    (hrun : runningPhase s = some (r, ph)) (htarget : r.heatTarget = some target) (hstage : ph.stage = .heating)
    (hopen : ph.stageEnd = none) (hbelow : w < target) :
    takeWorking w s = { s with
      therm := { s.therm with
        working := some w
        regulator := s.therm.regulator.map (fun on => if w + 2 < target then true else on)
        rise := if s.therm.rise = none ∧ suspended s = false then some ⟨0, w⟩ else s.therm.rise }
      prog := { s.prog with phase := some { ph with peak := max ph.peak w } } } := by
  have hstep : stepRegulator true target w = fun on => if w + 2 < target then true else on := by
    funext on
    simp [stepRegulator, Nat.not_le.2 hbelow]
  have hfirst : (s.therm.rise.isNone && !suspended s) = true ↔ s.therm.rise = none ∧ suspended s = false := by simp
  rw [(takeWorking_of_heating hrun htarget hstage hopen).2 hbelow, stepHeater, hstep]
  simp only [hfirst]
  split <;> rfl

/-- In HOLDING the regulator steps (R55, Table 3-1). -/
theorem takeWorking_of_holding {s : State} {r : PhaseRecord} {ph : RunningPhase} {w target : Nat}
    (hrun : runningPhase s = some (r, ph)) (htarget : r.heatTarget = some target) (hstage : ph.stage = .holding) :
    takeWorking w s = { s with
      therm := { s.therm with
        working := some w
        regulator := s.therm.regulator.map (fun on =>
          if target ≤ w then false else if w + 4 < target then true else on) }
      prog := { s.prog with phase := some { ph with peak := max ph.peak w } } } := by
  have hstep : stepRegulator false target w = fun on =>
      if target ≤ w then false else if w + 4 < target then true else on := by
    funext on
    simp [stepRegulator]
  rw [(takeWorking_of_running w hrun).2.1 target hstage htarget, stepHeater, hstep]
  rfl

/-- The peak keeps the highest working temperature, in every stage (R54). -/
theorem takeWorking_peak {s : State} {r : PhaseRecord} {ph : RunningPhase} (w : Nat)
    (hrun : runningPhase s = some (r, ph)) :
    (takeWorking w s).prog.phase.map (·.peak) = some (max ph.peak w) := by
  have hreport := reportEnd_map (f := (·.peak)) fun _ _ => rfl
  simp only [takeWorking, runningPhase_onTherm, hrun, onPhase_peakTaken w hrun, heatingReading, targetReached]
  repeat' split
  all_goals simp [hreport, peakTaken]

/-- Settles O20, by the raw reading and the working temperature apart. -/
theorem readingSetsRawWorkingAndLatch : Obligations.ReadingSetsRawWorkingAndLatch := by
  unfold Obligations.ReadingSetsRawWorkingAndLatch
  refine ⟨fun x s => ⟨_, rfl, ?_⟩, fun x s hlow hhigh => congrArg Host.Outcome.next ?_, fun w s => ⟨?_, ?_⟩⟩
  · have hraw := takeRaw_readingOf x s
    simp only [temperatureReading, finish_reading, finish_keeps, inRange_readingOf, decide_eq_true_eq]
    split
    · rename_i hin
      have htaken := takeWorking_readings (readingOf x) (takeRaw (readingOf x) s)
      have hwas := congrArg State.therm hraw
      refine ⟨(congrArg Readings.raw htaken).trans ?_, (congrArg Readings.working htaken).trans ?_,
        (congrArg Readings.latch htaken).trans ?_, (congrArg Readings.outTimer htaken).trans ?_, ?_⟩
      · exact congrArg Thermal.raw hwas
      · exact congrArg some (readingOf_of_inRange hin.1 hin.2)
      · exact congrArg Thermal.latch hwas
      · exact (congrArg Thermal.outTimer hwas).trans (if_pos hin)
      · simp
    · rename_i hout
      rw [hraw]
      simp [hout]
  · have hin : 4 ≤ x ∧ x ≤ 196 := ⟨hlow, hhigh⟩
    have hraw := takeRaw_readingOf x s
    rw [if_pos hin, ← readingOf_eq, readingOf_of_inRange hlow hhigh] at hraw
    rw [temperatureReading, inRange_readingOf, if_pos (decide_eq_true hin), readingOf_of_inRange hlow hhigh, hraw]
  · exact takeWorking_idle w
  · intro r ph hrun
    exact ⟨takeWorking_peak w hrun, takeWorking_of_unregulated w hrun, fun target htarget hstage hopen =>
      ⟨takeWorking_of_target_reached hrun htarget hstage hopen,
        takeWorking_of_below_target hrun htarget hstage hopen⟩, fun target htarget hstage =>
      takeWorking_of_holding hrun htarget hstage⟩

end Sys2Proof.Machine
end

section
namespace Sys2Proof.Machine

/-! ### O22: the hold timer -/

/-- The hold timer counts in HOLDING alone, until its end is reported and while no cause is in the set (R59). -/
theorem holdRuns_of_running {s : State} {r : PhaseRecord} {ph : RunningPhase} (hrun : runningPhase s = some (r, ph)) :
    holdRuns s = true ↔
      ph.stage = .holding ∧ ph.stageEnd = none ∧ suspended s = false ∧ s.therm.hold ≠ none := by
  simp only [holdRuns, stageOpen_of_running hrun, Bool.and_eq_true, beq_iff_eq, Option.isNone_iff_eq_none,
    Bool.not_eq_true', Option.isSome_iff_ne_none]
  constructor
  · rintro ⟨⟨hhold, hstage, hopen⟩, hfree⟩
    exact ⟨hstage, hopen, hfree, hhold⟩
  · rintro ⟨hstage, hopen, hfree, hhold⟩
    exact ⟨⟨hhold, hstage, hopen⟩, hfree⟩

theorem holdExpiry_of_running {s : State} {r : PhaseRecord} {ph : RunningPhase} (x : Turbidity)
    (hrun : runningPhase s = some (r, ph)) :
    holdExpiry x s = if holdRuns s then finish (holdingOver x r s) else s := by
  simp only [holdExpiry, hrun]

/-- Without a sample to take, the end of HOLDING is reported and the soil class stays (R59). -/
theorem holdingOver_without_sample {s : State} {r : PhaseRecord} {ph : RunningPhase} (x : Turbidity)
    (hphase : s.prog.phase = some ph) (hopen : ph.stageEnd = none) (h : r.kind ≠ .pre ∨ r.soilSample = false) :
    (holdingOver x r s).prog.phase = some { ph with stageEnd := some .finished } ∧
      (holdingOver x r s).prog.soilClass = s.prog.soilClass := by
  have hnone : ¬ (r.kind = .pre ∧ r.soilSample = true) := by
    rcases h with h | h <;> simp [h]
  rw [holdingOver, if_neg hnone]
  exact ⟨reportEnd_phase_of_open hphase hopen _, rfl⟩

/-- With one, the sample is taken at the end of HOLDING (R27, R59). -/
theorem holdingOver_with_sample {r : PhaseRecord} (x : Turbidity) (s : State) (hpre : r.kind = .pre)
    (hsoil : r.soilSample = true) :
    holdingOver x r s =
      reportEnd .finished (takeSoilSample x (s.onTherm fun t => { t with hold := none, regulator := none })) := by
  rw [holdingOver, if_pos ⟨hpre, hsoil⟩]

/-- 0 and 1023 are no soil readings (R102). -/
theorem soilReading_invalid_iff (x : Turbidity) : (x.toNat = 0 ∨ x.toNat = 1023) ↔ (x = 0 ∨ x = 1023) := by
  simp only [← BitVec.toNat_inj]
  rfl

/-- A soil reading gives the class of its thresholds (R101). -/
theorem takeSoilSample_of_valid {x : Turbidity} {s : State} (hsensor : s.notes.standing.soilSensor = false) (hlow : x ≠ 0)
    (hhigh : x ≠ 1023) :
    takeSoilSample x s = onPhase (fun ph => { ph with sample := some (classify s.cal x.toNat) })
      (s.onProg fun p => { p with soilClass := classify s.cal x.toNat }) := by
  have hvalid : ¬ (x.toNat = 0 ∨ x.toNat = 1023) := by
    rw [soilReading_invalid_iff]
    exact fun h => h.elim hlow hhigh
  simp only [takeSoilSample, hsensor, Bool.false_eq_true, if_false, soilReading, hvalid]

/-- A sensor that has failed, or now fails, gives class 1 (R27, R102). -/
theorem takeSoilSample_of_failed {x : Turbidity} {s : State}
    (h : s.notes.standing.soilSensor = true ∨ x = 0 ∨ x = 1023) :
    (takeSoilSample x s).prog.soilClass = 1 ∧ (takeSoilSample x s).notes.standing.soilSensor = true := by
  by_cases hsensor : s.notes.standing.soilSensor = true
  · simp [takeSoilSample, hsensor]
  · have hinvalid := (soilReading_invalid_iff x).2 (h.resolve_left hsensor)
    simp [takeSoilSample, hsensor, soilReading, hinvalid]

/-- Settles O22. -/
theorem holdExpiryEndsHolding : Obligations.HoldExpiryEndsHolding := by
  unfold Obligations.HoldExpiryEndsHolding
  intro x s r ph hrun
  obtain ⟨-, hphase, -⟩ := runningPhase_parts hrun
  have hexpiry := holdExpiry_of_running x hrun
  refine ⟨fun hidle => congrArg Host.Outcome.next (hexpiry.trans (if_neg ?_)),
    fun hstage hopen hfree hhold => ⟨congrArg Host.Outcome.next (hexpiry.trans (if_pos ?_)), by simp, by simp,
      holdingOver_without_sample x hphase hopen, fun hpre hsoil hsensor hlow hhigh => ?_, fun hpre hsoil hfails => ?_⟩⟩
  · rw [holdRuns_of_running hrun]
    rintro ⟨hstage, hopen, hfree, hhold⟩
    simp [hstage, hopen, hfree, hhold] at hidle
  · exact (holdRuns_of_running hrun).2 ⟨hstage, hopen, hfree, hhold⟩
  · rw [holdingOver_with_sample x s hpre hsoil, takeSoilSample_of_valid (by simpa using hsensor) hlow hhigh]
    exact ⟨rfl, reportEnd_phase_of_open (ph := { ph with sample := some (classify s.cal x.toNat) })
      (by simp [hphase]) hopen _⟩
  · rw [holdingOver_with_sample x s hpre hsoil]
    simpa using takeSoilSample_of_failed (s := s.onTherm fun t => { t with hold := none, regulator := none }) hfails

/-! ### O21: SENSOR_TEMP and the rise check -/

@[simp] theorem loseHeater_readings (s : State) : (loseHeater s).therm.readings = s.therm.readings := by
  simp only [loseHeater]
  split <;> simp

theorem runningStage_of_running {s : State} {r : PhaseRecord} {ph : RunningPhase} (hrun : runningPhase s = some (r, ph)) :
    runningStage s = some ph.stage := by
  simp [runningStage, hrun]

@[simp] theorem runningStage_onTherm (f : Thermal → Thermal) (s : State) :
    runningStage (s.onTherm f) = runningStage s := rfl

/-- Outside HEATING and HOLDING no stage loses its heater (R53). -/
theorem loseHeater_of_unheated {s : State} (hheating : runningStage s ≠ some .heating)
    (hholding : runningStage s ≠ some .holding) :
    loseHeater s = s.onTherm fun t => { t with regulator := none, rise := none } := by
  simp only [loseHeater, runningStage_onTherm]

/-- HEATING ends with "heat skipped", also when its target was reached (R53, log 20). -/
theorem loseHeater_of_heating {s : State} {r : PhaseRecord} {ph : RunningPhase} (hrun : runningPhase s = some (r, ph))
    (hstage : ph.stage = .heating) :
    (loseHeater s).prog.phase =
      some { ph with heated := false, heatSkipped := true, stageEnd := some .finished } := by
  obtain ⟨-, hphase, -⟩ := runningPhase_parts hrun
  simp only [loseHeater, runningStage_onTherm, runningStage_of_running hrun, hstage]
  simp [hphase, hstage]

/-- HOLDING goes on unheated (R53). -/
theorem loseHeater_of_holding {s : State} {r : PhaseRecord} {ph : RunningPhase} (hrun : runningPhase s = some (r, ph))
    (hstage : ph.stage = .holding) :
    (loseHeater s).prog.phase = some { ph with heated := false } ∧ (loseHeater s).therm.regulator = none := by
  obtain ⟨-, hphase, -⟩ := runningPhase_parts hrun
  simp only [loseHeater, runningStage_onTherm, runningStage_of_running hrun, hstage]
  simp [hphase, hstage]

/-- SENSOR_TEMP set and logged with the raw reading, its timer stopped (R53). -/
def sensorFailed (s : State) : State :=
  logFault .sensorTemp .thermalUnit (s.therm.raw.map (fun x => (x : Int)))
    { s with therm := { s.therm with outTimer := none }
             notes := { s.notes with standing := { s.notes.standing with sensorTemp := true } } }

theorem sensorTemp_eq (s : State) :
    sensorTemp s = if s.therm.outTimer.isSome then finish (loseHeater (sensorFailed s)) else s := rfl

/-! #### The rise check -/

/-- The end of HOLDING writes the report and the sample alone (R27, R59). -/
theorem holdingOver_map {α : Type} {f : RunningPhase → α} (hend : ∀ ph e, f { ph with stageEnd := e } = f ph)
    (hsample : ∀ ph c, f { ph with sample := c } = f ph) (x : Turbidity) (r : PhaseRecord) (s : State) :
    (holdingOver x r s).prog.phase.map f = s.prog.phase.map f := by
  have hsampled : ∀ c : Fin 4, (f ∘ fun ph : RunningPhase => { ph with sample := some c }) = f :=
    fun c => funext fun ph => hsample ph _
  simp only [holdingOver, takeSoilSample, reportEnd_map hend]
  repeat' split
  all_goals simp [hsampled]

/-- HOLDING changes nothing of the phase but its stage, its end and the sample (R19, R27, R59). -/
theorem enterHolding_map {α : Type} {f : RunningPhase → α} (hstage : ∀ ph st, f { ph with stage := st } = f ph)
    (hend : ∀ ph e, f { ph with stageEnd := e } = f ph) (hsample : ∀ ph c, f { ph with sample := c } = f ph)
    (r : PhaseRecord) (s : State) : (enterHolding r s).prog.phase.map f = s.prog.phase.map f := by
  have hentered : (f ∘ fun ph : RunningPhase => { ph with stage := .holding, stageEnd := none }) = f :=
    funext fun ph => (hend { ph with stage := .holding } none).trans (hstage ph _)
  simp only [enterHolding]
  repeat' split
  all_goals simp [holdingOver_map hend hsample, hentered]

/-- HOLDING entered by a phase that has not heated forms no regulator (R55, R58). -/
theorem enterHolding_unheated {s : State} {ph : RunningPhase} (r : PhaseRecord) (hphase : s.prog.phase = some ph)
    (hcold : ph.heated = false) :
    (enterHolding r s).therm.regulator = none ∧ (enterHolding r s).therm.rise = none := by
  simp only [enterHolding, hphase, hcold, Bool.false_eq_true, if_false]
  repeat' split
  all_goals simp

/-- The part on which a miss enters HOLDING: HEAT_SLOW logged, "heat missed" (R58 steps 1 to 3). -/
def heatMissed (gain : Int) (s : State) : State :=
  onPhase (fun ph => { ph with heatMissed := true, heated := false }) (logFault .heatSlow .thermalUnit (some gain) s)

theorem missTarget_eq {s : State} {r : PhaseRecord} {ph : RunningPhase} (gain : Int)
    (hrun : runningPhase s = some (r, ph)) :
    missTarget (logFault .heatSlow .thermalUnit (some gain) s) = enterHolding r (heatMissed gain s) := by
  have hrun' : runningPhase (logFault .heatSlow .thermalUnit (some gain) s) = some (r, ph) := hrun
  simp only [missTarget, hrun']
  rfl

/-- The phase after a miss: HOLDING, unheated, with "heat missed" (R58). -/
theorem missTarget_phase {s : State} {r : PhaseRecord} {ph : RunningPhase} (gain : Int)
    (hrun : runningPhase s = some (r, ph)) :
    ∃ x, (missTarget (logFault .heatSlow .thermalUnit (some gain) s)).prog.phase = some x ∧ x.stage = .holding ∧
      x.heatMissed = true ∧ x.heated = false ∧ x.heatSkipped = ph.heatSkipped ∧ x.age = ph.age := by
  obtain ⟨-, hphase, -⟩ := runningPhase_parts hrun
  have hmissed : (heatMissed gain s).prog.phase = some { ph with heatMissed := true, heated := false } := by
    simp [heatMissed, hphase]
  obtain ⟨x, hx, hstage, hheated, hskipped⟩ := enterHolding_phase r hmissed
  have hkept := enterHolding_map (f := fun ph => (ph.heatMissed, ph.age)) (fun _ _ => rfl) (fun _ _ => rfl)
    (fun _ _ => rfl) r (heatMissed gain s)
  simp only [hx, hmissed, Option.map_some, Option.some.injEq, Prod.mk.injEq] at hkept
  exact ⟨x, by rw [missTarget_eq gain hrun, hx], hstage, hkept.1, hheated, hskipped, hkept.2⟩

/-- The running phase goes on after a miss, in the same record (R58). -/
theorem runningTag_missTarget {s : State} {r : PhaseRecord} {ph : RunningPhase} (gain : Int)
    (hrun : runningPhase s = some (r, ph)) :
    runningTag (missTarget (logFault .heatSlow .thermalUnit (some gain) s)) = some r.tag := by
  obtain ⟨hstate, -, rest, hqueue⟩ := runningPhase_parts hrun
  obtain ⟨x, hx, -⟩ := missTarget_phase gain hrun
  have hon := runningPhase_eq (rest := rest) (r := r) (by rw [missTarget_eq gain hrun]; simp [heatMissed, hstate]) hx
    (by rw [missTarget_eq gain hrun]; simp [heatMissed, hqueue])
  simp [runningTag, hon]

/-- What a miss leaves of the thermal unit: no regulator, no window (R58). -/
theorem missTarget_therm {s : State} {r : PhaseRecord} {ph : RunningPhase} (gain : Int)
    (hrun : runningPhase s = some (r, ph)) :
    (missTarget (logFault .heatSlow .thermalUnit (some gain) s)).therm.regulator = none ∧
      (missTarget (logFault .heatSlow .thermalUnit (some gain) s)).therm.rise = none ∧
      (missTarget (logFault .heatSlow .thermalUnit (some gain) s)).therm.slowCount = s.therm.slowCount := by
  obtain ⟨-, hphase, -⟩ := runningPhase_parts hrun
  rw [missTarget_eq gain hrun]
  obtain ⟨hregulator, hrise⟩ := enterHolding_unheated r (s := heatMissed gain s)
    (ph := { ph with heatMissed := true, heated := false }) (by simp [heatMissed, hphase]) rfl
  have hreadings : (enterHolding r (heatMissed gain s)).therm.readings = s.therm.readings := by simp [heatMissed]
  exact ⟨hregulator, hrise, congrArg Readings.slowCount hreadings⟩

/-- A hold time keeps the soil sample for later, so that a miss logs HEAT_SLOW alone (R58, R59). -/
theorem missTarget_notes {s : State} {r : PhaseRecord} {ph : RunningPhase} (gain : Int)
    (hrun : runningPhase s = some (r, ph)) (htime : r.holdTime ≠ 0) :
    (missTarget (logFault .heatSlow .thermalUnit (some gain) s)).notes =
      (logFault .heatSlow .thermalUnit (some gain) s).notes := by
  obtain ⟨-, hphase, -⟩ := runningPhase_parts hrun
  rw [missTarget_eq gain hrun, enterHolding_spec r (heatMissed gain s)
    { ph with heatMissed := true, heated := false } (by simp [heatMissed, hphase]) htime]
  simp [heatMissed]

/-- A miss leaves HEATER as it was (R58). -/
theorem missTarget_heater {s : State} {r : PhaseRecord} {ph : RunningPhase} (gain : Int)
    (hrun : runningPhase s = some (r, ph)) :
    (missTarget (logFault .heatSlow .thermalUnit (some gain) s)).notes.standing.heater = s.notes.standing.heater := by
  rw [missTarget_eq gain hrun]
  have h : (enterHolding r (heatMissed gain s)).notes.standing.thermal = s.notes.standing.thermal := by
    simp [heatMissed]
  exact congrArg (fun x => x.2.1) h

/-- The slow count rises, and from 2 on HEATER is set and logged unless it stands (R58 step 4). -/
theorem countSlow_spec (s : State) :
    (countSlow s).therm = { s.therm with slowCount := s.therm.slowCount + 1 } ∧
      (1 ≤ s.therm.slowCount → (countSlow s).notes.standing.heater = true) ∧
      (1 ≤ s.therm.slowCount → s.notes.standing.heater = false → (countSlow s).notes.log =
        appendLog s.notes.log ⟨.heater, .thermalUnit, runningTag s, none, s.store.minutes⟩) ∧
      (s.therm.slowCount = 0 ∨ s.notes.standing.heater = true → (countSlow s).notes = s.notes) := by
  have hcount : ∀ n, 2 ≤ n + 1 ↔ 1 ≤ n := fun n => by omega
  simp only [countSlow, State.onTherm_therm, State.onTherm_notes, hcount]
  split
  · rename_i hset
    obtain ⟨hslow, hheater⟩ := hset
    refine ⟨by simp, fun _ => by simp, fun _ _ => rfl, fun h => ?_⟩
    rcases h with h | h
    · omega
    · simp [hheater] at h
  · rename_i hunset
    exact ⟨rfl, fun h => by simpa [h] using hunset, fun h hheater => absurd ⟨h, hheater⟩ hunset, fun _ => rfl⟩

/-- The last of a log's records is the one that was appended (R192). -/
theorem appendLog_getLast? (log : List FaultRecord) (r : FaultRecord) : (appendLog log r).getLast? = some r := by
  rw [appendLog, List.getLast?_drop, if_neg (by simp only [List.length_append, List.length_singleton]; omega)]
  exact List.getLast?_concat

/-- The rise check counts in a HEATING whose end is open (R57). -/
theorem riseExpiry_of_heating {s : State} {win : RiseWindow} {w : Nat} {r : PhaseRecord} {ph : RunningPhase}
    (hwin : s.therm.rise = some win) (hw : s.therm.working = some w) (hrun : runningPhase s = some (r, ph))
    (hstage : ph.stage = .heating) (hopen : ph.stageEnd = none) (hfree : suspended s = false) :
    riseExpiry s = if 2 ≤ (w : Int) - (win.reference : Int) then s.onTherm fun t => { t with rise := some ⟨0, w⟩ }
      else finish (riseMiss ((w : Int) - (win.reference : Int)) s) := by
  have hruns : riseRuns s = true := by simp [riseRuns, hwin, stageOpen_of_running hrun, hstage, hopen, hfree]
  simp only [riseExpiry, hwin, hw, hruns, if_true]

/-- Settles O21. -/
theorem heatingEndsByFaultOrMiss : Obligations.HeatingEndsByFaultOrMiss := by
  unfold Obligations.HeatingEndsByFaultOrMiss
  refine ⟨fun s => ⟨fun hstopped => ?_, fun hruns => ?_, loseHeater_of_unheated, fun r ph => loseHeater_of_heating,
    fun r ph => loseHeater_of_holding⟩, fun s win w r ph hwin hw hrun hstage hopen hfree => ?_⟩
  · exact congrArg Host.Outcome.next ((sensorTemp_eq s).trans (if_neg (by simp [hstopped])))
  · have hexec : exec .sensorTemp s = .next (finish (loseHeater (sensorFailed s))) :=
      congrArg Host.Outcome.next ((sensorTemp_eq s).trans (if_pos (Option.isSome_iff_ne_none.2 hruns)))
    have hreadings := loseHeater_readings (sensorFailed s)
    refine ⟨hexec, _, hexec, ?_, ?_, ?_, ?_⟩
    · simp [sensorFailed]
    · simp only [finish_reading]
      exact congrArg Readings.outTimer hreadings
    · simp only [finish_reading]
      exact congrArg Readings.raw hreadings
    · simp [sensorFailed]
  · have hexpiry := riseExpiry_of_heating hwin hw hrun hstage hopen hfree
    refine ⟨fun hgain => congrArg Host.Outcome.next (hexpiry.trans (if_pos (by omega))),
      fun hmiss => ⟨congrArg Host.Outcome.next (hexpiry.trans (if_neg (by omega))), fun g => ?_⟩⟩
    obtain ⟨hregulator, hrise, hslow⟩ := missTarget_therm g hrun
    have hheater := missTarget_heater g hrun
    have htag := runningTag_missTarget g hrun
    obtain ⟨htherm, hset, hlogged, hunset⟩ := countSlow_spec (missTarget (logFault .heatSlow .thermalUnit (some g) s))
    rw [hslow, hheater] at hlogged hunset
    rw [hslow] at htherm hset
    have hlog : 1 ≤ s.therm.slowCount → s.notes.standing.heater = false → (riseMiss g s).notes.log =
        appendLog (missTarget (logFault .heatSlow .thermalUnit (some g) s)).notes.log
          ⟨.heater, .thermalUnit, some r.tag, none, s.store.minutes⟩ := by
      intro hcount hoff
      rw [riseMiss, hlogged hcount hoff, htag]
      simp
    refine ⟨?_, ?_, ?_, ?_, hset, fun hcount hoff => ?_, fun htime h => ?_, fun htime hcount hoff => ?_⟩
    · simp [riseMiss, htherm]
    · simpa [riseMiss] using missTarget_phase g hrun
    · simp [riseMiss, htherm, hregulator]
    · simp [riseMiss, htherm, hrise]
    · rw [hlog hcount hoff, appendLog_getLast?]
    · rw [riseMiss, hunset h, missTarget_notes g hrun htime]
    · rw [hlog hcount hoff, missTarget_notes g hrun htime]
      simp [logFault, raiseAll, runningTag, hrun]

end Sys2Proof.Machine
end

section
namespace Sys2Proof.Machine

/-! ### O23: the diverter -/

/-- The diverter's detent and index switches read closed by their pulse (R153). -/
theorem setDebounced_diverter (s : State) :
    setDebounced .detent true s = { s with mon := { s.mon with detent := ⟨true, true, true, 0⟩ } } ∧
      setDebounced .index true s = { s with mon := { s.mon with index := ⟨true, true, true, 0⟩ } } :=
  ⟨rfl, rfl⟩

/-- After a pulse the position is the one it brought, and the stall timer is at zero (R64, R67). -/
theorem diverterArrives_spec (p : Option (Fin 4)) (s : State) :
    (diverterArrives p s).therm.position = p ∧ (diverterArrives p s).therm.divStall = 0 := by
  have harrived : (startAlternate (s.onTherm fun t => { t with position := p, divStall := 0 })).therm.readings =
      { s.therm.readings with position := p, divStall := 0 } := startAlternate_readings _
  refine ⟨?_, (finish_readings _).2 (congrArg Readings.divStall harrived)⟩
  simp only [diverterArrives, finish_reading]
  exact congrArg Readings.position harrived

/-- A slip is logged at the positions 0, 1 and 2 alone (R64). -/
theorem logSlip_of_no_slip {s : State} (h : s.therm.position = none ∨ s.therm.position = some 3) : logSlip s = s := by
  rcases h with h | h <;> simp [logSlip, h]

theorem logSlip_of_slip {s : State} {p : Fin 4} (h : s.therm.position = some p) (hp : p ≠ 3) :
    logSlip s = logFault .diverterSlip .thermalUnit (some (p.val : Int)) s := by
  simp [logSlip, h, hp]

/-- A slip's record does not depend on what the inputs read (R64). -/
theorem logSlip_withMon (m : Monitor) (s : State) :
    logSlip { s with mon := m } = { s with mon := m, notes := (logSlip s).notes } := by
  cases hp : s.therm.position with
  | none => rw [logSlip_of_no_slip (s := { s with mon := m }) (.inl hp), logSlip_of_no_slip (.inl hp)]
  | some p =>
    by_cases hthree : p = 3
    · subst hthree
      rw [logSlip_of_no_slip (s := { s with mon := m }) (.inr hp), logSlip_of_no_slip (.inr hp)]
    · rw [logSlip_of_slip (s := { s with mon := m }) hp hthree, logSlip_of_slip hp hthree]
      rfl

/-- The switching timer counts while the phase circulates and no stall stands (R66, R67). -/
theorem alternateRuns_iff (s : State) : alternateRuns s = true ↔
    s.therm.alternate ≠ none ∧ circulating s = true ∧ s.notes.standing.diverterStall = false := by
  simp [alternateRuns, Option.isSome_iff_ne_none, and_assoc]

/-- DIVERTER_STALL set and logged with the position, the stall timer restarted (R67). -/
def diverterStalled (s : State) : State :=
  logFault .diverterStall .thermalUnit (s.therm.position.map (fun p => (p.val : Int)))
    { s with therm := { s.therm with divStall := 0 }
             notes := { s.notes with standing := { s.notes.standing with diverterStall := true } } }

theorem diverterStall_eq (s : State) :
    diverterStall s = if diverterFinal s then
      if s.notes.standing.diverterStall then s.onTherm fun t => { t with divStall := 0 } else finish (diverterStalled s)
    else s := rfl

/-- Settles O23. -/
theorem diverterFollowsPulsesAndTimers : Obligations.DiverterFollowsPulsesAndTimers := by
  unfold Obligations.DiverterFollowsPulsesAndTimers
  refine ⟨fun s => ?_, fun s => ⟨fun halternate hcirculating hstall => ?_, fun hidle => ?_, fun hoff => ?_,
    fun hon hstall => ?_, fun hon hstall => ?_⟩⟩
  · obtain ⟨hdetent, hindex⟩ := setDebounced_diverter s
    have hindexed : exec .indexPulse s = .next (finish (startAlternate
        { s with mon := { s.mon with index := ⟨true, true, true, 0⟩ }
                 notes := (logSlip s).notes
                 therm := { s.therm with position := some 0, divStall := 0 } })) := by
      show Host.Outcome.next (diverterArrives (some 0) (logSlip (setDebounced .index true s))) = _
      rw [hindex, logSlip_withMon]
      rfl
    obtain ⟨hunwanted, hwanted⟩ := startAlternate_spec s
    obtain ⟨hposition, hzero⟩ := diverterArrives_spec (s.therm.position.map (· + 1)) (setDebounced .detent true s)
    obtain ⟨hposition', hzero'⟩ := diverterArrives_spec (some 0) (logSlip (setDebounced .index true s))
    refine ⟨⟨_, rfl, hposition, hzero, by simp [detentPulse], by simp [detentPulse], by simp [detentPulse]⟩, rfl,
      ⟨_, rfl, hposition', hzero', by simp [indexPulse], by simp [indexPulse], by simp [indexPulse]⟩, hindexed,
      logSlip_of_no_slip, fun p => logSlip_of_slip, hunwanted, fun z r ph hz hrun hzones => ?_⟩
    have halternating : alternating s = true := by simp [alternating, hrun, hzones]
    simpa [halternating] using hwanted z hz
  · have hruns := (alternateRuns_iff s).2 ⟨halternate, hcirculating, hstall⟩
    exact congrArg Host.Outcome.next (if_pos hruns)
  · have hstopped : ¬ alternateRuns s = true := by
      rw [alternateRuns_iff]
      rintro ⟨halternate, hcirculating, hstall⟩
      simp [halternate, hcirculating, hstall] at hidle
    exact congrArg Host.Outcome.next (if_neg hstopped)
  · exact congrArg Host.Outcome.next ((diverterStall_eq s).trans (if_neg (by simp [hoff])))
  · exact congrArg Host.Outcome.next ((diverterStall_eq s).trans ((if_pos hon).trans (if_pos hstall)))
  · have hexec : exec .diverterStall s = .next (finish (diverterStalled s)) :=
      congrArg Host.Outcome.next ((diverterStall_eq s).trans ((if_pos hon).trans (if_neg (by simp [hstall]))))
    refine ⟨hexec, _, hexec, by simp [diverterStalled], (finish_readings _).2 rfl, ?_⟩
    simp [diverterStalled]

end Sys2Proof.Machine
end

section
namespace Sys2Proof.Machine

/-! ### O24: the drain -/

/-- A change of the level switch moves a PUMPING job to TAILING, a TAILING or DRY_HELD one to PUMPING (R69). -/
theorem atLevel_eq (j : DrainJob) :
    j.atLevel false = (if j.state = .pumping then { j with state := .tailing, tail := 0 } else j) ∧
      j.atLevel true = (if j.state = .pumping then j else { j with state := .pumping, tail := 0 }) := by
  cases hstate : j.state <;> simp [DrainJob.atLevel, hstate]

/-- The level switch's reading taken by the input monitor (R153). -/
def levelRead (water : Bool) (s : State) : State :=
  { s with mon := { s.mon with level := ⟨water, water, true, 0⟩ } }

/-- A change of the level switch that has been read before, the other way, is delivered (R153). -/
theorem levelChange_delivered {water : Bool} {s : State} (hread : s.mon.level.read = true)
    (hstate : s.mon.level.state = !water) :
    exec (.levelSwitchChange water) s = .next (finish (onDrain (DrainJob.atLevel water) (levelRead water s))) := by
  have hnew : reads s .level water = false := by cases water <;> simp [reads, Monitor.get, hstate]
  have hdelivered : silentChange s .level water = false := by simp [silentChange, unread, Monitor.get, hread, oneWay]
  show Host.Outcome.next (levelChange water s) = _
  simp only [levelChange, deliver, hnew, hdelivered]
  rfl

theorem onDrain_of_job {s : State} {j : DrainJob} (hjob : s.therm.drain = some j) (f : DrainJob → DrainJob) :
    onDrain f s = { s with therm := { s.therm with drain := some (f j) } } := by
  simp [onDrain, State.onTherm, hjob]

/-! #### Which expiries a job takes -/

theorem tailRuns_iff {s : State} {j : DrainJob} (hjob : s.therm.drain = some j) :
    tailRuns s = true ↔ j.state = .tailing ∧ drainHeld s j = false := by
  simp [tailRuns, hjob]

theorem timeoutRuns_iff {s : State} {j : DrainJob} (hjob : s.therm.drain = some j) :
    timeoutRuns s = true ↔ j.state ≠ .dryHeld ∧ drainHeld s j = false ∧ extension s = false := by
  simp [timeoutRuns, hjob, and_assoc]

/-- A suspended PHASE job and a CANCEL job under leak or inhibit are held (R72). -/
theorem drainHeld_iff (s : State) (j : DrainJob) : drainHeld s j = true ↔
    (j.kind = .phase ∧ suspended s = true) ∨ (j.kind = .cancel ∧ (leakPresent s = true ∨ inhibited s = true)) := by
  cases hkind : j.kind <;> simp [drainHeld, hkind]

/-- DRAIN_BLOCKED logged, the job gone (R70). -/
def drainTimedOut (s : State) : State :=
  { logFault .drainBlocked .thermalUnit (some (if levelWater s then 1 else 0)) s with
    therm := { s.therm with drain := none } }

/-- The tail's expiry completes the job, or holds it dry while an extension runs (R69, R71). -/
theorem exec_drainTailExpiry_runs {s : State} (h : tailRuns s = true) :
    exec .drainTailExpiry s = .next (finish (if extension s then
      onDrain (fun j => { j with state := .dryHeld, tail := 15000 }) s else completeDrain s)) :=
  congrArg Host.Outcome.next (if_pos h)

theorem drainBlocked_eq (s : State) :
    drainBlocked s = if timeoutRuns s then finish (faultAndClose (drainTimedOut s)) else s := rfl

theorem exec_drainTailExpiry_idle {s : State} (h : ¬ tailRuns s = true) : exec .drainTailExpiry s = .next s :=
  congrArg Host.Outcome.next (if_neg h)

theorem exec_drainBlocked_idle {s : State} (h : ¬ timeoutRuns s = true) : exec .drainBlocked s = .next s :=
  congrArg Host.Outcome.next ((drainBlocked_eq s).trans (if_neg h))

/-- A job that tails, not held and with no extension, completes (R69). -/
theorem exec_drainTailExpiry_completes {s : State} {j : DrainJob} (hjob : s.therm.drain = some j)
    (hstate : j.state = .tailing) (hheld : drainHeld s j = false) (hext : extension s = false) :
    exec .drainTailExpiry s = .next (finish (completeDrain s)) := by
  rw [exec_drainTailExpiry_runs ((tailRuns_iff hjob).2 ⟨hstate, hheld⟩), if_neg (by simp [hext])]

/-- A job that is neither held nor DRY_HELD, with no extension, times out (R70). -/
theorem exec_drainBlocked_timesOut {s : State} {j : DrainJob} (hjob : s.therm.drain = some j)
    (hstate : j.state ≠ .dryHeld) (hheld : drainHeld s j = false) (hext : extension s = false) :
    exec .drainBlocked s = .next (finish (faultAndClose (drainTimedOut s))) :=
  congrArg Host.Outcome.next ((drainBlocked_eq s).trans (if_pos ((timeoutRuns_iff hjob).2 ⟨hstate, hheld, hext⟩)))

/-! #### The program's fault (R16) -/

@[simp] theorem raiseAll_log (k : NoticeKind) (s : State) : (raiseAll k s).notes.log = s.notes.log := rfl

@[simp] theorem placeResult_log (r : ResultRecord) (s : State) : (placeResult r s).notes.log = s.notes.log := by
  simp [placeResult]

/-- The end of a phase logs no fault (R5, R28). -/
@[simp] theorem endPhase_log (e : PhaseEnding) (s : State) : (endPhase e s).notes.log = s.notes.log := by
  simp only [endPhase]
  repeat' split
  all_goals simp

/-- A softener outside FLUSH and RESIN_RINSE does not mind a window that closes (spec/04 R92). -/
theorem windowClosed_of_not_regenerating {s : State} (h : regenerating s = false) : windowClosed s = s := by
  cases hstate : s.soft.state <;> simp_all [windowClosed, regenerating]

/-- With no extension running a fault reaches the program alone (R16, R71). -/
theorem faultAndClose_of_no_extension {s : State} (hext : extension s = false) : faultAndClose s = faultProgram s := by
  simp only [faultAndClose]
  split
  · rename_i hwindow
    have hregen : regenerating s = false := by simpa [extension, hwindow] using hext
    exact windowClosed_of_not_regenerating (by simpa [regenerating] using hregen)
  · rfl

theorem faultProgram_of_not_running {s : State} (h : s.prog.state ≠ .running) :
    faultProgram s = s.onProg fun p => { p with state := .faulted, arm := false, delay := none } := by
  simp [faultProgram, h]

/-- A drain job that is gone does not come back with the phase's work (R12, R16). -/
theorem withdrawPhaseWork_drain {s : State} (h : s.therm.drain = none) : (withdrawPhaseWork s).therm.drain = none := by
  simp only [withdrawPhaseWork]
  repeat' split
  all_goals simp_all

/-- The running phase ends FAULTED: its record leaves the queue, the tank-wet flag stays (R5, R16). -/
theorem faultProgram_of_running {s : State} {r : PhaseRecord} {ph : RunningPhase}
    (hrun : runningPhase s = some (r, ph)) :
    (faultProgram s).prog.state = .faulted ∧ (faultProgram s).prog.phase = none ∧
      (faultProgram s).prog.queue = s.prog.queue.tail ∧ (faultProgram s).prog.tankWet = s.prog.tankWet ∧
      (faultProgram s).notes.log = s.notes.log ∧
      (s.therm.drain = none → (faultProgram s).therm.drain = none) := by
  obtain ⟨hstate, hphase, rest, hqueue⟩ := runningPhase_parts hrun
  obtain ⟨u, hu⟩ : ∃ u, u = (withdrawPhaseWork s).onProg fun p =>
    { p with state := .faulted, arm := false, delay := none } := ⟨_, rfl⟩
  have hends : faultProgram s = endPhase .faulted u := by
    simp [faultProgram, hstate, hu]
  obtain ⟨hrest, hnone, -⟩ := endPhase_spec u .faulted ph r rest (by simp [hu, hphase]) (by simp [hu, hqueue])
  rw [hends]
  refine ⟨by simp [hu], hnone, by rw [hrest, hqueue]; rfl, by simp [hu], by simp [hu], fun hdrain => ?_⟩
  simp [hu, withdrawPhaseWork_drain hdrain]

/-! #### The cancel drain and the phase's drain -/

/-- The tail of a cancel drain leads to IDLE with the tank dry, without a word (R13, R14). -/
theorem drainTailExpiry_of_cancel {s : State} {j : DrainJob} (hjob : s.therm.drain = some j) (hkind : j.kind = .cancel)
    (hstate : s.prog.state = .cancelling) (hheld : drainHeld s j = false) (hext : extension s = false)
    (hinlet : s.sup.overrides.inlet = false) (htail : j.state = .tailing) :
    ∃ t, exec .drainTailExpiry s = .next t ∧ t.prog.state = .idle ∧ t.prog.tankWet = false ∧
      t.prog.queue = s.prog.queue ∧ t.therm.drain = none ∧ t.notes = s.notes ∧ t.store = s.store ∧ t.soft = s.soft := by
  obtain ⟨htherm, hnotes, hcancelled, -⟩ := completeDrain_spec s j hjob
  have hprog := hcancelled hkind hstate
  have hidle : runningPhase (completeDrain s) = none := runningPhase_of_not_running (by simp [hprog])
  obtain ⟨hnotes', hstore, -, hqueue, hstate', -⟩ := finish_leaves _ hidle
  obtain ⟨hdrain, htank⟩ := finish_leaves_tank _ hidle
  refine ⟨_, exec_drainTailExpiry_completes hjob htail hheld hext, ?_, ?_, ?_, ?_, ?_, ?_, by simp⟩
  · rw [hstate', hprog]
  · rw [htank (by simpa using hinlet), hprog]
  · rw [hqueue, hprog]
  · rw [hdrain, htherm]
  · rw [hnotes', hnotes]
  · simp [hstore]

/-- The fault of a program with no phase left to run is the whole of what its event does to it (R16, R21). -/
theorem finish_faulted {s : State} (hstate : s.prog.state = .faulted) (hdrain : s.therm.drain = none)
    (hinlet : s.sup.overrides.inlet = false) :
    (finish s).prog.state = .faulted ∧ (finish s).prog.phase = s.prog.phase ∧
      (finish s).prog.queue = s.prog.queue ∧ (finish s).prog.tankWet = s.prog.tankWet ∧
      (finish s).therm.drain = none ∧ (finish s).notes = s.notes := by
  have hidle : runningPhase s = none := runningPhase_of_not_running (by simp [hstate])
  obtain ⟨hnotes, -, -, hqueue, hstate', -, hphase, -⟩ := finish_leaves s hidle
  obtain ⟨hdrain', htank⟩ := finish_leaves_tank s hidle
  exact ⟨hstate'.trans hstate, hphase, hqueue, htank hinlet, hdrain'.trans hdrain, hnotes⟩

/-- The timeout of a cancel drain leaves FAULTED and a wet tank (R13, R16, R70). -/
theorem drainBlocked_of_cancel {s : State} {j : DrainJob} (hjob : s.therm.drain = some j)
    (hstate : s.prog.state = .cancelling) (hheld : drainHeld s j = false) (hext : extension s = false)
    (hinlet : s.sup.overrides.inlet = false) (hdry : j.state ≠ .dryHeld) :
    ∃ t, exec .drainBlocked s = .next t ∧ t.prog.state = .faulted ∧ t.prog.tankWet = s.prog.tankWet ∧
      t.prog.queue = s.prog.queue ∧ t.therm.drain = none ∧ t.notes.log = appendLog s.notes.log
        ⟨.drainBlocked, .thermalUnit, none, some (if levelWater s then 1 else 0), s.store.minutes⟩ := by
  have hfault : faultAndClose (drainTimedOut s) =
      (drainTimedOut s).onProg fun p => { p with state := .faulted, arm := false, delay := none } := by
    rw [faultAndClose_of_no_extension (s := drainTimedOut s) hext]
    refine faultProgram_of_not_running ?_
    show s.prog.state ≠ .running
    simp [hstate]
  have htag : runningTag s = none := by
    simp [runningTag, runningPhase_of_not_running (s := s) (by simp [hstate])]
  obtain ⟨hfaulted, -, hqueue, htank, hdrain, hnotes⟩ := finish_faulted (s := (drainTimedOut s).onProg fun p =>
    { p with state := .faulted, arm := false, delay := none }) rfl rfl hinlet
  rw [← hfault] at hfaulted hqueue htank hdrain hnotes
  refine ⟨_, exec_drainBlocked_timesOut hjob hdry hheld hext, hfaulted, htank.trans ?_, hqueue.trans ?_, hdrain, ?_⟩
  · rw [hfault]
    rfl
  · rw [hfault]
    rfl
  · rw [hnotes, hfault, ← htag]
    rfl

/-- The timeout of a phase's drain ends the phase FAULTED with its tag in the record (R16, R70). -/
theorem drainBlocked_of_phase {s : State} {j : DrainJob} {r : PhaseRecord} {ph : RunningPhase}
    (hjob : s.therm.drain = some j) (hrun : runningPhase s = some (r, ph)) (hheld : drainHeld s j = false)
    (hext : extension s = false) (hinlet : s.sup.overrides.inlet = false) (hdry : j.state ≠ .dryHeld) :
    ∃ t, exec .drainBlocked s = .next t ∧ t.prog.state = .faulted ∧ t.prog.phase = none ∧
      t.prog.queue = s.prog.queue.tail ∧ t.prog.tankWet = s.prog.tankWet ∧ t.therm.drain = none ∧
      t.notes.log = appendLog s.notes.log
        ⟨.drainBlocked, .thermalUnit, some r.tag, some (if levelWater s then 1 else 0), s.store.minutes⟩ := by
  have hfault : faultAndClose (drainTimedOut s) = faultProgram (drainTimedOut s) :=
    faultAndClose_of_no_extension (s := drainTimedOut s) hext
  have htag : runningTag s = some r.tag := by simp [runningTag, hrun]
  obtain ⟨hstate, hphase, hqueue, htank, hlog, hdrain⟩ := faultProgram_of_running (s := drainTimedOut s) hrun
  rw [← hfault] at hstate hphase hqueue htank hlog hdrain
  obtain ⟨hfaulted, hphase', hqueue', htank', hdrain', hnotes⟩ := finish_faulted hstate (hdrain rfl)
    (by simpa [drainTimedOut] using hinlet)
  refine ⟨_, exec_drainBlocked_timesOut hjob hdry hheld hext, hfaulted, hphase'.trans hphase, hqueue'.trans hqueue,
    htank'.trans htank, hdrain', ?_⟩
  rw [hnotes, hlog, ← htag]
  rfl

/-- Settles O24. -/
theorem drainJobMovesWithTheLevel : Obligations.DrainJobMovesWithTheLevel := by
  unfold Obligations.DrainJobMovesWithTheLevel
  refine ⟨fun s hnone => ⟨exec_drainTailExpiry_idle (by simp [tailRuns, hnone]),
      exec_drainBlocked_idle (by simp [timeoutRuns, hnone])⟩,
    fun s j hjob => ⟨fun hread hstate => ?_, fun hread hstate => ?_, fun htail hheld hext => ?_, ?_,
      exec_drainBlocked_timesOut hjob, fun hholds => ?_, fun htail => ?_, fun hdry => ?_⟩,
    fun s j hjob hkind hstate hleak hinhibit hext hinlet => ?_,
    fun s j r ph hjob hkind hrun _ hfree hext hinlet hdry => ?_⟩
  · rw [levelChange_delivered (water := false) hread hstate, onDrain_of_job (s := levelRead false s) hjob, (atLevel_eq j).1]
    rfl
  · rw [levelChange_delivered (water := true) hread hstate, onDrain_of_job (s := levelRead true s) hjob, (atLevel_eq j).2]
    rfl
  · rw [exec_drainTailExpiry_runs ((tailRuns_iff hjob).2 ⟨htail, hheld⟩), if_pos hext, onDrain_of_job hjob]
  · exact exec_drainTailExpiry_completes hjob
  · have hheld := (drainHeld_iff s j).2 hholds
    exact ⟨exec_drainTailExpiry_idle (by simp [tailRuns_iff hjob, hheld]),
      exec_drainBlocked_idle (by simp [timeoutRuns_iff hjob, hheld])⟩
  · exact exec_drainTailExpiry_idle (by simp [tailRuns_iff hjob, htail])
  · refine exec_drainBlocked_idle ?_
    rcases hdry with hdry | hext
    · simp [timeoutRuns_iff hjob, hdry]
    · simp [timeoutRuns_iff hjob, hext]
  · have hheld : drainHeld s j = false := by simp [drainHeld, hkind, hleak, hinhibit]
    exact ⟨drainTailExpiry_of_cancel hjob hkind hstate hheld hext hinlet,
      drainBlocked_of_cancel hjob hstate hheld hext hinlet⟩
  · have hheld : drainHeld s j = false := by simp [drainHeld, hkind, hfree]
    exact drainBlocked_of_phase hjob hrun hheld hext hinlet hdry

end Sys2Proof.Machine
end

section
namespace Sys2Proof.Machine

/-! ### O28, O29: doses

One equation for each function of the dose computer; the formulas and the bounds of Table 5-4 are read off them. -/

/-- With the limits in order the clamp is the greater of the lower limit and what the upper one leaves (R105, R106). -/
theorem clampPlan_fst {lo hi : Nat} (hle : lo ≤ hi) (scaled : Nat) :
    (clampPlan scaled lo hi).1 = max lo (min hi scaled) := by
  show clampNat scaled lo hi = _
  unfold clampNat
  split
  · omega
  · split <;> omega

/-- MIN also stands at the lower limit itself, MAX only above both limits (R105). -/
theorem clampPlan_snd (scaled lo hi : Nat) :
    ((clampPlan scaled lo hi).2 = .min ↔ scaled ≤ lo) ∧
      ((clampPlan scaled lo hi).2 = .max ↔ lo < scaled ∧ hi < scaled) := by
  by_cases hlo : scaled ≤ lo <;> by_cases hhi : hi < scaled <;> simp [clampPlan, hlo, hhi]
  omega

/-! #### The plans (R104 to R107) -/

/-- The detergent plan is formed from the fill record that stands (R103). -/
theorem planDetergent_of_record {s : State} {x : FillRecord} (hrecord : s.water.record = some x) {k : DoseWorking}
    (hk : detergentWorking s.cal s.prog.soilClass x.v x.vSoft x.vHard = k) {pl cout n : Nat} {cl : Clamp}
    (hplan : clampPlan k.scaled s.cal.dminD s.cal.dmaxD = (pl, cl))
    (hstrokes : strokesOf pl s.dose.carryD s.cal.vsD = (n, cout)) :
    planDetergent s = (⟨.detergent, some ⟨pl, cl, s.dose.carryD, cout⟩, some s.prog.soilClass, s.cal.vsD, n, 0, 0, 0,
      some k⟩, cout) := by
  simp only [planDetergent, hrecord, hk, hplan, hstrokes]

/-- At rinse level 0 nothing is dosed and the carry stays (R106). -/
theorem planRinse_of_level_zero {s : State} (hlevel : s.cal.rinseLevel = 0) :
    planRinse s = (⟨.rinseAid, none, none, s.cal.vsR, 0, 0, 0, 0, none⟩, s.dose.carryR) :=
  if_pos hlevel

/-- At another level the level times Ur is clamped and turned into strokes (R106, R107). -/
theorem planRinse_of_level {s : State} (hlevel : s.cal.rinseLevel ≠ 0) {pl cout n : Nat} {cl : Clamp}
    (hplan : clampPlan (s.cal.rinseLevel * s.cal.ur) s.cal.dminR s.cal.dmaxR = (pl, cl))
    (hstrokes : strokesOf pl s.dose.carryR s.cal.vsR = (n, cout)) :
    planRinse s = (⟨.rinseAid, some ⟨pl, cl, s.dose.carryR, cout⟩, none, s.cal.vsR, n, 0, 0, 0, none⟩, cout) := by
  simp only [planRinse, if_neg hlevel, hplan, hstrokes]

theorem planRinse_reservoir (s : State) : (planRinse s).1.reservoir = .rinseAid := by
  by_cases hlevel : s.cal.rinseLevel = 0
  · rw [planRinse_of_level_zero hlevel]
  · rw [planRinse_of_level hlevel rfl rfl]

/-- Settles O28. -/
theorem plansFollowTheirFormulas : Obligations.PlansFollowTheirFormulas := by
  unfold Obligations.PlansFollowTheirFormulas
  refine ⟨fun s x hrecord => ?_, fun s => ⟨fun hlevel => ?_, fun hlevel hle => ?_, planRinse_reservoir s⟩⟩
  · have hplan := planDetergent_of_record hrecord rfl rfl rfl
    obtain ⟨hmin, hmax⟩ := clampPlan_snd (detergentWorking s.cal s.prog.soilClass x.v x.vSoft x.vHard).scaled
      s.cal.dminD s.cal.dmaxD
    refine ⟨_, _, _, _, _, _, congrArg Prod.fst hplan, congrArg Prod.snd hplan, rfl, rfl, rfl, ?_,
      fun hle => clampPlan_fst hle _, hmin, hmax, rfl, rfl⟩
    generalize s.prog.soilClass = soil
    match soil with
    | 0 | 1 | 2 | 3 => rfl
  · rw [planRinse_of_level_zero hlevel]
    exact ⟨rfl, rfl, rfl⟩
  · rw [planRinse_of_level hlevel rfl rfl]
    exact ⟨_, rfl, clampPlan_fst hle _, rfl, rfl, rfl, rfl⟩

/-! #### The bounds of Table 5-4 -/

/-- The soil factors of sound settings are at most 200 % (Table 5-1). -/
theorem soilFactor_le {c : Settings} (hsound : c.sound) (soil : Fin 4) : soilFactor c soil ≤ 200 := by
  obtain ⟨-, -, hrange, -⟩ := hsound
  match soil with
  | 0 => exact (hrange 13 0 50 200 (by decide) rfl).2
  | 1 => exact (hrange 14 0 50 200 (by decide) rfl).2
  | 2 => exact (hrange 15 0 50 200 (by decide) rfl).2
  | 3 => exact (hrange 16 0 50 200 (by decide) rfl).2

/-- The clamp limits and the stroke volume of sound settings (Table 5-1, R100). -/
theorem dose_limits_of_sound {c : Settings} (hsound : c.sound) :
    1000 ≤ c.dminD ∧ c.dminD ≤ c.dmaxD ∧ c.dmaxD ≤ 60000 ∧ 100 ≤ c.vsD ∧ c.vsD ≤ 1000 := by
  obtain ⟨-, -, hrange, -, -, hle, -⟩ := hsound
  obtain ⟨hmin, -⟩ : 1000 ≤ c.dminD ∧ _ := hrange 20 0 1000 60000 (by decide) rfl
  obtain ⟨-, hmax⟩ : _ ∧ c.dmaxD ≤ 60000 := hrange 21 0 1000 60000 (by decide) rfl
  obtain ⟨hvs, hvs'⟩ : 100 ≤ c.vsD ∧ c.vsD ≤ 1000 := hrange 25 0 100 1000 (by decide) rfl
  exact ⟨hmin, hle, hmax, hvs, hvs'⟩

/-- The two terms of W: the softened part of a fill is charged no more than the hard part (R104). -/
theorem weightedWater_terms_le {c : Settings} (hsound : c.sound) {v vSoft vHard : Nat} (hv : v ≤ 8800)
    (hsplit : vSoft + vHard = v) :
    v * c.bd ≤ 88000000 ∧ c.kh * (vSoft * min c.hardness c.hres + vHard * c.hardness) ≤ 123200000 := by
  obtain ⟨hhardness, -, hrange, -⟩ := hsound
  have hbd : c.bd ≤ 10000 := (hrange 11 0 1000 10000 (by decide) rfl).2
  have hkh : c.kh ≤ 200 := (hrange 12 0 0 200 (by decide) rfl).2
  have hwater : vSoft * min c.hardness c.hres + vHard * c.hardness ≤ 8800 * 70 :=
    calc vSoft * min c.hardness c.hres + vHard * c.hardness
      _ ≤ vSoft * c.hardness + vHard * c.hardness :=
        Nat.add_le_add_right (Nat.mul_le_mul_left _ (Nat.min_le_left _ _)) _
      _ = v * c.hardness := by rw [← Nat.add_mul, hsplit]
      _ ≤ 8800 * 70 := Nat.mul_le_mul hv hhardness
  exact ⟨Nat.mul_le_mul hv hbd, Nat.mul_le_mul hkh hwater⟩

/-- W, base, the product with the soil factor and scaled (Table 5-4). -/
theorem detergentWorking_le {c : Settings} (hsound : c.sound) (soil : Fin 4) {v vSoft vHard : Nat} (hv : v ≤ 8800)
    (hsplit : vSoft + vHard = v) {k : DoseWorking} (hk : detergentWorking c soil v vSoft vHard = k) :
    k.w ≤ 211200000 ∧ k.base ≤ 211200 ∧ k.base * soilFactor c soil ≤ 42240000 ∧ k.scaled ≤ 422400 := by
  obtain ⟨hvolume, hhardness⟩ := weightedWater_terms_le hsound hv hsplit
  subst hk
  have hw : (detergentWorking c soil v vSoft vHard).w ≤ 88000000 + 123200000 := Nat.add_le_add hvolume hhardness
  have hbase : (detergentWorking c soil v vSoft vHard).base ≤ 211200 := Nat.div_le_div_right (c := 1000) hw
  have hproduct := Nat.mul_le_mul hbase (soilFactor_le hsound soil)
  exact ⟨hw, hbase, hproduct, Nat.div_le_div_right (c := 100) hproduct⟩

/-- A detergent plan has 1 to 600 strokes, whatever the formula gave: the plan lies in 1000..60000 and a stroke in
100..1000, and the carry is less than one stroke (R107). -/
theorem detergentStrokes_bounds {c : Settings} (hsound : c.sound) (scaled : Nat) {carry : Nat} (hcarry : carry < c.vsD) :
    (clampPlan scaled c.dminD c.dmaxD).1 + carry ≤ 60999 ∧
      1 ≤ (strokesOf (clampPlan scaled c.dminD c.dmaxD).1 carry c.vsD).1 ∧
      (strokesOf (clampPlan scaled c.dminD c.dmaxD).1 carry c.vsD).1 ≤ 600 := by
  obtain ⟨hmin, hle, hmax, hvs, hvs'⟩ := dose_limits_of_sound hsound
  have hpos : 0 < c.vsD := by omega
  have hplan := clampPlan_fst hle scaled
  generalize (clampPlan scaled c.dminD c.dmaxD).1 = plan at hplan ⊢
  obtain ⟨-, -, hstrokes⟩ := strokesOf_spec plan carry c.vsD hpos
  rw [hstrokes]
  refine ⟨by omega, (Nat.one_le_div_iff hpos).2 (by omega), Nat.le_of_lt_succ ((Nat.div_lt_iff_lt_mul hpos).2 ?_)⟩
  omega

/-- Settles O29. -/
theorem doseArithmeticStaysInBounds : Obligations.DoseArithmeticStaysInBounds := by
  unfold Obligations.DoseArithmeticStaysInBounds
  intro c soil v vSoft vHard hsound hv hsplit
  obtain ⟨hvolume, hhardness⟩ := weightedWater_terms_le hsound hv hsplit
  obtain ⟨hw, hbase, hproduct, hscaled⟩ := detergentWorking_le hsound soil hv hsplit rfl
  exact ⟨hvolume, hhardness, hw, hbase, hproduct, hscaled, fun _ hcarry => detergentStrokes_bounds hsound _ hcarry⟩

end Sys2Proof.Machine
end

section
/-!
PROOFS, dosing pumps and reservoirs (spec/06). What the operations do to a reservoir and to the pump faults.
-/

namespace Sys2Proof.Machine

/-! ### One reservoir's part of the dosing unit -/

@[simp] theorem Dosing.get_mk_stroke (d : Dosing) (x : Option Nat) (q : Reservoir) :
    Dosing.get ⟨d.detergent, d.rinseAid, x⟩ q = d.get q := by
  cases q <;> rfl

@[simp] theorem onReservoir_get (r q : Reservoir) (f : ReservoirState → ReservoirState) (s : State) :
    (onReservoir r f s).dosing.get q = if q = r then f (s.dosing.get q) else s.dosing.get q := by
  cases r <;> cases q <;> rfl

@[simp] theorem onReservoir_stroke (r : Reservoir) (f : ReservoirState → ReservoirState) (s : State) :
    (onReservoir r f s).dosing.stroke = s.dosing.stroke := by
  cases r <;> rfl

/-- A stroke is charged to a known account (R117, R122). -/
theorem chargeStroke_eq (vs : Nat) (x : ReservoirState) :
    chargeStroke vs x = { x with account := if x.known = true then x.account - vs else x.account } := by
  simp only [chargeStroke]
  split <;> rfl

theorem setDebounced_get_other {i j : SwitchInput} (h : j ≠ i) (v : Bool) (s : State) :
    (setDebounced i v s).mon.get j = s.mon.get j := by
  simp [setDebounced, Monitor.get_set_other _ _ h]

/-! #### A reservoir through the end of an event

A stage may begin a stroke, which is no reservoir's. Of a reservoir only the run-out moves, which ends in the forced
layer. -/

@[simp] theorem nextStroke_get (s : State) (q : Reservoir) : (nextStroke s).dosing.get q = s.dosing.get q := by
  simp only [nextStroke]
  repeat' split
  all_goals simp

@[simp] theorem enterAfterFilling_get (r : PhaseRecord) (s : State) (q : Reservoir) :
    (enterAfterFilling r s).dosing.get q = s.dosing.get q := by
  simp only [enterAfterFilling]
  split <;> simp

@[simp] theorem endPhase_get (e : PhaseEnding) (s : State) (q : Reservoir) :
    (endPhase e s).dosing.get q = s.dosing.get q := by
  simp only [endPhase]
  repeat' split
  all_goals simp

@[simp] theorem leaveStage_get (r : PhaseRecord) (ph : RunningPhase) (e : StageEnd) (s : State) (q : Reservoir) :
    (leaveStage r ph e s).dosing.get q = s.dosing.get q := by
  simp only [leaveStage]
  split <;> simp

@[simp] theorem runStages_get (n : Nat) (s : State) (q : Reservoir) :
    (runStages n s).dosing.get q = s.dosing.get q := by
  induction n generalizing s with
  | zero => simp [runStages]
  | succ n ih =>
    simp only [runStages, stepStage]
    repeat' split
    all_goals simp [ih]

@[simp] theorem placeDemands_get (s : State) (q : Reservoir) : (placeDemands s).dosing.get q = s.dosing.get q := by
  simp only [placeDemands]
  repeat' split
  all_goals simp

theorem stopRunOuts_get (s : State) (q : Reservoir) : (stopRunOuts s).dosing.get q =
    if forcedOff s = true then { s.dosing.get q with runOut := none } else s.dosing.get q := by
  simp only [stopRunOuts]
  split
  · cases q <;> rfl
  · rfl

@[simp] theorem followOutputs_dosing (s : State) : (followOutputs s).dosing = (stopRunOuts s).dosing := by
  simp only [followOutputs]
  repeat' split
  all_goals simp

/-- The forced layer goes by the supervisor and the inputs alone (R157). -/
theorem forcedOff_congr {s t : State} (hsup : t.sup = s.sup) (hmon : t.mon = s.mon) : forcedOff t = forcedOff s := by
  simp [forcedOff, leakActive, inhibited, hsup, hmon]

/-- The end of an event stops a run-out in the forced layer, and does nothing else to a reservoir (R121). -/
theorem finish_get (s : State) (q : Reservoir) : (finish s).dosing.get q =
    if forcedOff s = true then { s.dosing.get q with runOut := none } else s.dosing.get q := by
  have hforced : forcedOff (endMetWash (runStages stageFuel (placeDemands (runStages stageFuel (watchDoor s))))) =
      forcedOff s := forcedOff_congr (by simp) (by simp)
  simp [finish, stopRunOuts_get, hforced]

/-! #### The standing faults through the end of an event -/

/-- The standing faults but the two that a stage may move: the soil sensor's (R102) and the reference's (R133). -/
def Standing.settled (x : Standing) : Standing := { x with soilSensor := false, referenceFail := false }

@[simp] theorem Standing.settled_soilSensor (x : Standing) (v : Bool) :
    Standing.settled { x with soilSensor := v } = x.settled := rfl

@[simp] theorem Standing.settled_referenceFail (x : Standing) (v : Bool) :
    Standing.settled { x with referenceFail := v } = x.settled := rfl

@[simp] theorem holdingOver_settled (x : Turbidity) (r : PhaseRecord) (s : State) :
    (holdingOver x r s).notes.standing.settled = s.notes.standing.settled := by
  simp only [holdingOver, takeSoilSample, soilReading]
  repeat' split
  all_goals simp

@[simp] theorem enterHolding_settled (r : PhaseRecord) (s : State) :
    (enterHolding r s).notes.standing.settled = s.notes.standing.settled := by
  simp only [enterHolding]
  repeat' split
  all_goals simp

@[simp] theorem enterHeating_settled (r : PhaseRecord) (s : State) :
    (enterHeating r s).notes.standing.settled = s.notes.standing.settled := by
  simp only [enterHeating]
  repeat' split
  all_goals simp

@[simp] theorem enterAfterFilling_settled (r : PhaseRecord) (s : State) :
    (enterAfterFilling r s).notes.standing.settled = s.notes.standing.settled := by
  simp only [enterAfterFilling]
  split <;> simp

@[simp] theorem enterRetracting_settled (s : State) :
    (enterRetracting s).notes.standing.settled = s.notes.standing.settled := by
  simp only [enterRetracting, decideRetract, decideUnreferenced, askApproach, referencedEnd]
  repeat' split
  all_goals simp

@[simp] theorem leaveStage_settled (r : PhaseRecord) (ph : RunningPhase) (e : StageEnd) (s : State) :
    (leaveStage r ph e s).notes.standing.settled = s.notes.standing.settled := by
  simp only [leaveStage]
  split <;> simp

@[simp] theorem runStages_settled (n : Nat) (s : State) :
    (runStages n s).notes.standing.settled = s.notes.standing.settled := by
  induction n generalizing s with
  | zero => simp [runStages]
  | succ n ih =>
    simp only [runStages, stepStage]
    repeat' split
    all_goals simp [ih]

/-- The end of an event sets no fault but SOIL_SENSOR and removes none but REFERENCE_FAIL (R191, R193). -/
theorem finish_settled (s : State) : (finish s).notes.standing.settled = s.notes.standing.settled := by
  simp [finish]

theorem finish_pumpFault (s : State) (r : Reservoir) : pumpFault (finish s) r = pumpFault s r := by
  have hdetergent := congrArg Standing.pumpD (finish_settled s)
  have hrinseAid := congrArg Standing.pumpR (finish_settled s)
  cases r
  · exact hdetergent
  · exact hrinseAid

end Sys2Proof.Machine
end

section
namespace Sys2Proof.Machine

/-! ### O31: the low and cap switches -/

/-- A change that is delivered, to a state not yet read, acts on the state that has taken the reading (R153, R154). -/
theorem deliver_of_delivered {i : SwitchInput} {v : Bool} {s : State} (hnew : reads s i v = false)
    (hacts : silentChange s i v = false) (act : State → State) : deliver i v act s = act (setDebounced i v s) := by
  simp [deliver, hnew, hacts]

theorem silentChange_of_read {i : SwitchInput} {s : State} (hread : (s.mon.get i).read = true)
    (htwo : oneWay i = false) (v : Bool) : silentChange s i v = false := by
  simp [silentChange, unread, hread, htwo]

theorem silentChange_of_asserted {i : SwitchInput} (halways : i.assertionAlwaysDelivered = true)
    (htwo : oneWay i = false) (s : State) : silentChange s i true = false := by
  simp [silentChange, halways, htwo]

theorem reads_eq_false {i : SwitchInput} {v : Bool} {s : State}
    (h : (s.mon.get i).read = false ∨ (s.mon.get i).state = !v) : reads s i v = false := by
  rcases h with h | h <;> simp [reads, h]

/-- The low and cap switches are two-way inputs whose assertion is always delivered (Table 8-1, R154). -/
theorem reservoirInputs_delivered (r : Reservoir) :
    (oneWay (lowInput r) = false ∧ (lowInput r).assertionAlwaysDelivered = true) ∧
      oneWay (capInput r) = false ∧ (capInput r).assertionAlwaysDelivered = true := by
  cases r <;> decide

theorem lowInput_ne_capInput (r : Reservoir) : lowInput r ≠ capInput r := by
  cases r <;> decide

theorem setResLow_eq (r : Reservoir) (c : Conditions) :
    setResLow r true c = { c with resLowD := decide (r = .detergent) || c.resLowD
                                  resLowR := decide (r = .rinseAid) || c.resLowR } ∧
      setResLow r false c = { c with resLowD := !decide (r = .detergent) && c.resLowD
                                     resLowR := !decide (r = .rinseAid) && c.resLowR } := by
  cases r <;> exact ⟨rfl, rfl⟩

/-- The beginning of a level condition: its flag, and its kind on every port (R187). -/
theorem beginCondition_notes (k : NoticeKind) (f : Conditions → Conditions) (s : State) :
    (beginCondition k f s).notes.conditions = f s.notes.conditions ∧
      ∀ p l, ((beginCondition k f s).notes.get p).count l =
        if l = k then min 15 ((s.notes.get p).count l + 1) else (s.notes.get p).count l := by
  refine ⟨rfl, fun p l => ?_⟩
  rw [beginCondition, raiseAll_count]
  cases p <;> rfl

/-- A low reading that is delivered: RES_LOW begins and the account comes to the low mark (R123, R125). -/
theorem lowSwitchChange_low {r : Reservoir} {s : State}
    (hnew : (s.mon.get (lowInput r)).read = false ∨ (s.mon.get (lowInput r)).state = false) :
    ∃ t, exec (.lowSwitchChange r true) s = .next t ∧
      t.dosing.get r = (s.dosing.get r).atLow (s.cal.lowMark r) (!(s.mon.get (lowInput r)).read) ∧
      t.notes.conditions = { s.notes.conditions with
        resLowD := decide (r = .detergent) || s.notes.conditions.resLowD
        resLowR := decide (r = .rinseAid) || s.notes.conditions.resLowR } ∧
      (∀ p k, (t.notes.get p).count k =
        if k = resLow r then min 15 ((s.notes.get p).count k + 1) else (s.notes.get p).count k) ∧
      t.dose = s.dose ∧ t.soft = s.soft ∧ t.prog = s.prog := by
  obtain ⟨⟨htwo, halways⟩, -⟩ := reservoirInputs_delivered r
  obtain ⟨u, hu⟩ : ∃ u, u = onReservoir r (ReservoirState.atLow (s.cal.lowMark r) (unread s (lowInput r)))
    (setDebounced (lowInput r) true s) := ⟨_, rfl⟩
  have hexec : exec (.lowSwitchChange r true) s = .next (beginCondition (resLow r) (setResLow r true) u) := by
    show Host.Outcome.next (lowChange r true s) = _
    rw [hu, lowChange, deliver_of_delivered (reads_eq_false hnew) (silentChange_of_asserted halways htwo s)]
    simp
  obtain ⟨hconditions, hcounts⟩ := beginCondition_notes (resLow r) (setResLow r true) u
  have hnotes : u.notes = s.notes := by simp [hu]
  rw [hnotes] at hconditions hcounts
  refine ⟨_, hexec, by simp [hu, unread], hconditions.trans (setResLow_eq r _).1, hcounts, ?_, ?_, ?_⟩
  all_goals simp [hu]

/-- A reading "not low" after a low one: the condition ends, and an armed watch refills the account (R123 to R125). -/
theorem lowSwitchChange_notLow {r : Reservoir} {s : State} (hread : (s.mon.get (lowInput r)).read = true)
    (hlow : (s.mon.get (lowInput r)).state = true) :
    ∃ t, exec (.lowSwitchChange r false) s = .next t ∧
      t.dosing.get r = (if (s.dosing.get r).watch ≠ none
        then { s.dosing.get r with account := s.cal.nominal r * 1000, known := true, watch := none }
        else s.dosing.get r) ∧
      t.notes = { s.notes with conditions := { s.notes.conditions with
        resLowD := !decide (r = .detergent) && s.notes.conditions.resLowD
        resLowR := !decide (r = .rinseAid) && s.notes.conditions.resLowR } } ∧
      t.dose = s.dose ∧ t.soft = s.soft ∧ t.prog = s.prog := by
  obtain ⟨⟨htwo, -⟩, -⟩ := reservoirInputs_delivered r
  obtain ⟨u, hu⟩ : ∃ u, u = endCondition (setResLow r false) (setDebounced (lowInput r) false s) := ⟨_, rfl⟩
  have hexec : exec (.lowSwitchChange r false) s = .next (if (u.dosing.get r).watch.isSome then
      onReservoir r (ReservoirState.refill (u.cal.nominal r)) u else u) := by
    show Host.Outcome.next (lowChange r false s) = _
    rw [hu, lowChange, deliver_of_delivered (reads_eq_false (.inr hlow)) (silentChange_of_read hread htwo false)]
    rfl
  have hnotes : u.notes = { s.notes with conditions := setResLow r false s.notes.conditions } := by
    rw [hu]
    rfl
  rw [(setResLow_eq r _).2] at hnotes
  have hdosing : u.dosing = s.dosing := by simp [hu]
  have hkeeps : u.cal = s.cal ∧ u.dose = s.dose ∧ u.soft = s.soft ∧ u.prog = s.prog := by simp [hu]
  obtain ⟨hcal, hdose, hsoft, hprog⟩ := hkeeps
  rw [hdosing, hcal] at hexec
  refine ⟨_, hexec, ?_⟩
  cases hwatch : (s.dosing.get r).watch with
  | none => simp [hnotes, hdosing, hdose, hsoft, hprog]
  | some left => simp [hnotes, hdosing, hdose, hsoft, hprog, ReservoirState.refill]

/-- An opening of the cap (R124). -/
theorem capSwitchChange_opened {r : Reservoir} {s : State}
    (hnew : (s.mon.get (capInput r)).read = false ∨ (s.mon.get (capInput r)).state = false) :
    exec (.capSwitchChange r true) s =
      .next (onReservoir r (fun x => { x with opened := true, watch := none }) (setDebounced (capInput r) true s)) := by
  obtain ⟨-, htwo, halways⟩ := reservoirInputs_delivered r
  exact congrArg Host.Outcome.next
    (deliver_of_delivered (reads_eq_false hnew) (silentChange_of_asserted halways htwo s) _)

/-- A closing of the cap goes by the low switch as it reads (R124). -/
theorem capSwitchChange_closed {r : Reservoir} {s : State} (hread : (s.mon.get (capInput r)).read = true)
    (hopen : (s.mon.get (capInput r)).state = true) :
    exec (.capSwitchChange r false) s =
      .next (onReservoir r (ReservoirState.capClosed (s.cal.nominal r) (s.mon.get (lowInput r)).state)
        (setDebounced (capInput r) false s)) := by
  obtain ⟨-, htwo, -⟩ := reservoirInputs_delivered r
  have hlow := setDebounced_get_other (lowInput_ne_capInput r) false s
  rw [← hlow]
  exact congrArg Host.Outcome.next
    (deliver_of_delivered (reads_eq_false (.inr hopen)) (silentChange_of_read hread htwo false) _)

/-- Settles O31. -/
theorem lowAndCapSwitchesSetTheAccount : Obligations.LowAndCapSwitchesSetTheAccount := by
  unfold Obligations.LowAndCapSwitchesSetTheAccount
  refine ⟨fun r s => ⟨fun hread hstate => ?_, fun hunread => ?_, fun hread hstate => ⟨?_, ?_⟩⟩,
    fun r s => ⟨fun hnew => ?_, fun hread hopen => ?_, rfl⟩⟩
  · obtain ⟨t, hexec, haccount, hrest⟩ := lowSwitchChange_low (r := r) (.inr hstate)
    exact ⟨t, hexec, by simp [haccount, ReservoirState.atLow, hread], hrest⟩
  · obtain ⟨t, hexec, haccount, hconditions, hcounts, -⟩ := lowSwitchChange_low (r := r) (.inl hunread)
    exact ⟨t, hexec, by simp [haccount, ReservoirState.atLow, hunread], hconditions, hcounts⟩
  · exact congrArg Host.Outcome.next (if_pos (by simp [reads, hread, hstate]))
  · exact lowSwitchChange_notLow hread hstate
  · refine ⟨_, capSwitchChange_opened hnew, ?_⟩
    simp
  · refine ⟨_, capSwitchChange_closed hread hopen, ?_⟩
    cases hopened : (s.dosing.get r).opened <;> simp [ReservoirState.capClosed, hopened]

end Sys2Proof.Machine
end
section
namespace Sys2Proof.Machine

/-! ### O30: strokes and run-outs

What a delivery, a withdrawal and a timeout make of the plan and of the reservoirs; then the commands; then the two phase
ends that withdraw. -/

/-- A stroke delivered: counted in the plan, gone from the pump, charged to its reservoir (R117, R121). -/
theorem deliverStroke_spec {s : State} {p : DosePlan} (hplan : s.dose.plan = some p) :
    (deliverStroke s).dose.plan = some { p with delivered := p.delivered + 1 } ∧
      (deliverStroke s).dosing.stroke = none ∧
      ∀ q, (deliverStroke s).dosing.get q =
        if q = p.reservoir then chargeStroke p.stroke (s.dosing.get q) else s.dosing.get q := by
  simp [deliverStroke, hplan, onPlan]

/-- A plan withdrawn with a stroke in flight: that one is delivered, the rest are withdrawn (R119, R121). -/
def DosePlan.cutShort (p : DosePlan) : DosePlan :=
  { p with
    delivered := p.delivered + 1
    withdrawn := p.withdrawn + (p.planned - (p.delivered + 1 + p.shortfall + p.withdrawn)) }

/-- The withdrawal with a stroke in flight: its pump runs out with the stroke's timer (R121). -/
theorem withdrawStrokes_of_stroke {s : State} {p : DosePlan} {t : Nat} (hplan : s.dose.plan = some p)
    (hstroke : s.dosing.stroke = some t) :
    (withdrawStrokes s).dose.plan = some p.cutShort ∧
      (withdrawStrokes s).dosing.stroke = none ∧
      ∀ q, (withdrawStrokes s).dosing.get q =
        if q = p.reservoir then { chargeStroke p.stroke (s.dosing.get q) with runOut := some t }
        else s.dosing.get q := by
  obtain ⟨hdelivered, hnone, hget⟩ := deliverStroke_spec hplan
  refine ⟨?_, ?_, fun q => ?_⟩
  · simp [withdrawStrokes, hplan, hstroke, onPlan, hdelivered, DosePlan.uncounted, DosePlan.counted,
      DosePlan.cutShort]
  · simp [withdrawStrokes, hplan, hstroke, hnone]
  · by_cases hq : q = p.reservoir <;> simp [withdrawStrokes, hplan, hstroke, hget, hq]

/-- With no stroke in flight the rest are withdrawn, and no pump runs out (R121). -/
theorem withdrawStrokes_of_idle {s : State} {p : DosePlan} (hplan : s.dose.plan = some p)
    (hstroke : s.dosing.stroke = none) :
    (withdrawStrokes s).dose.plan = some { p with
        withdrawn := p.withdrawn + (p.planned - (p.delivered + p.shortfall + p.withdrawn)) } ∧
      (withdrawStrokes s).dosing = s.dosing := by
  simp [withdrawStrokes, hplan, hstroke, onPlan, DosePlan.uncounted, DosePlan.counted]

/-! #### Pulses -/

theorem serviceStroke_eq (vs : Nat) (x : ReservoirState) :
    x.serviceStroke vs = { x with account := if x.known = true then x.account - vs else x.account
                                  serviceStrokes := min 65535 (x.serviceStrokes + 1) } := by
  rw [ReservoirState.serviceStroke, chargeStroke_eq]

/-- Whose pulse a stroke pulse is, on the state that its input has taken (R117, R121, R126). -/
theorem exec_strokePulse (r : Reservoir) (s : State) : exec (.strokePulse r) s = .next (
    if strokeInFlight s r then finish (deliverStroke (endRunOut r (setDebounced (strokeInput r) true s)))
    else if (s.dosing.get r).runOut.isSome then finish (endRunOut r (setDebounced (strokeInput r) true s))
    else if s.sup.overrides.dose r then
      onReservoir r (ReservoirState.serviceStroke (s.cal.vs r)) (setDebounced (strokeInput r) true s)
    else setDebounced (strokeInput r) true s) := rfl

/-! #### Timeouts -/

/-- Which timer a stroke timeout is of, while the pump runs (R118, R121). -/
theorem exec_strokeTimeout (r : Reservoir) (s : State) : exec (.strokeTimeout r) s = .next (
    if pumpFinal s r = false then s
    else if runOutLeads r s then finish (setPumpFault r none (endRunOut r s))
    else if strokeInFlight s r then finish (strokeTimedOut r s)
    else s) := rfl

/-- A pump fault that is set stands, whether or not it stood before (R118). -/
theorem setPumpFault_stands (r : Reservoir) (detail : Option Int) (s : State) :
    pumpFault (setPumpFault r detail s) r = true := by
  by_cases h : pumpFault s r = true
  · simp [setPumpFault, h]
  · cases r <;> simp [setPumpFault, h] <;> rfl

/-- A stroke timed out: every stroke not yet counted is shortfall, no account is charged, the fault stands (R118). -/
theorem strokeTimedOut_spec (r : Reservoir) {s : State} {p : DosePlan} (hplan : s.dose.plan = some p) :
    (strokeTimedOut r s).dose.plan =
        some { p with shortfall := p.shortfall + (p.planned - (p.delivered + p.shortfall + p.withdrawn)) } ∧
      (strokeTimedOut r s).dosing = { s.dosing with stroke := none } ∧
      pumpFault (strokeTimedOut r s) r = true := by
  obtain ⟨u, hu⟩ : ∃ u, u = setPumpFault r (deliveredDetail s) (s.onDosing fun d => { d with stroke := none }) :=
    ⟨_, rfl⟩
  have hfault : pumpFault u r = true := hu ▸ setPumpFault_stands r _ _
  have hdose : u.dose = s.dose := by simp [hu]
  have hdosing : u.dosing = { s.dosing with stroke := none } := by simp [hu]
  have hout : strokeTimedOut r s =
      if stageOpen (allShortfall u) .dosing then reportEnd .finished (allShortfall u) else allShortfall u := by
    rw [hu]
    rfl
  have hplan' : (allShortfall u).dose.plan =
      some { p with shortfall := p.shortfall + (p.planned - (p.delivered + p.shortfall + p.withdrawn)) } := by
    simp [allShortfall, onPlan, hdose, hplan, DosePlan.uncounted, DosePlan.counted]
  have hfault' : pumpFault (allShortfall u) r = true := hfault
  rw [hout]
  split
  · exact ⟨by simp [hplan'], by simp [hdosing], hfault'⟩
  · exact ⟨hplan', by simp [hdosing], hfault'⟩

/-- A run-out timed out: the fault stands, no account and no count changes (R121). -/
theorem runOut_timedOut (r : Reservoir) (s : State) :
    pumpFault (finish (setPumpFault r none (endRunOut r s))) r = true ∧
      ((finish (setPumpFault r none (endRunOut r s))).dosing.get r).runOut = none ∧
      ((finish (setPumpFault r none (endRunOut r s))).dosing.get r).account = (s.dosing.get r).account := by
  rw [finish_pumpFault, finish_get]
  refine ⟨setPumpFault_stands r none _, ?_⟩
  split <;> simp [endRunOut]

/-! #### The phase ends that withdraw (R12, R16) -/

/-- A phase runs in DOSING with a stroke in flight, at `t` ms, of a plan. -/
structure StrokeRuns (s : State) (r : PhaseRecord) (ph : RunningPhase) (p : DosePlan) (t : Nat) : Prop where
  running : runningPhase s = some (r, ph)
  stage : ph.stage = .dosing
  plan : s.dose.plan = some p
  stroke : s.dosing.stroke = some t

/-- The newest result is that of the record's phase, FAULTED, with the counts of the plan cut short (R28, R121). -/
def handsOver (r : PhaseRecord) (p : DosePlan) (s : State) : Prop :=
  ∃ x, s.notes.ring.getLast? = some x ∧ x.tag = r.tag ∧ x.ending = .faulted ∧
    ∀ a, p.amounts = some a →
      (if p.reservoir = .detergent then x.doseD else x.doseR) =
        some ⟨p.planned, p.cutShort.delivered, p.shortfall, p.cutShort.withdrawn, a.plan⟩

/-- Of the work that is withdrawn with a phase in DOSING only the strokes touch the plan and the pumps (R121). -/
theorem withdrawPhaseWork_of_dosing {s : State} {r : PhaseRecord} {ph : RunningPhase}
    (hrun : runningPhase s = some (r, ph)) (hstage : ph.stage = .dosing) :
    (withdrawPhaseWork s).dose = (withdrawStrokes s).dose ∧
      (withdrawPhaseWork s).dosing = (withdrawStrokes s).dosing := by
  have hfilling : withdrawPhaseWork.stageIsFilling s = false := by
    simp [withdrawPhaseWork.stageIsFilling, runningStage, hrun, hstage]
  simp only [withdrawPhaseWork, hfilling, Bool.false_eq_true, if_false]
  repeat' split
  all_goals simp

@[simp] theorem cancelLeaves_keeps (s : State) :
    (cancelLeaves s).dose = s.dose ∧ (cancelLeaves s).dosing = s.dosing := by
  simp only [cancelLeaves]
  repeat' split
  all_goals simp

/-- CANCEL of a phase in DOSING leaves no plan and no stroke in flight, and the pump runs out with the stroke's timer (R12,
R121). -/
theorem cancelProgram_of_stroke {s : State} {r : PhaseRecord} {ph : RunningPhase} {p : DosePlan} {t : Nat}
    (h : StrokeRuns s r ph p t) :
    (cancelProgram s).dose.plan = none ∧ (cancelProgram s).dosing.stroke = none ∧
      ((cancelProgram s).dosing.get p.reservoir).runOut = some t := by
  obtain ⟨u, hu⟩ : ∃ u, u = s.onProg fun p => { p with arm := false, delay := none } := ⟨_, rfl⟩
  obtain ⟨hrun, hstage, hplan, hstroke⟩ : StrokeRuns u r ph p t := by
    rw [hu]
    exact ⟨h.running, h.stage, h.plan, h.stroke⟩
  obtain ⟨hstate, hphase, rest, hqueue⟩ := runningPhase_parts hrun
  obtain ⟨-, hdosing⟩ := withdrawPhaseWork_of_dosing hrun hstage
  obtain ⟨-, -, hget⟩ := withdrawStrokes_of_stroke hplan hstroke
  have habandon : abandonPhase .cancelled u = endPhase .cancelled (withdrawPhaseWork u) := by
    simp [abandonPhase, hphase]
  obtain ⟨-, -, -, -, -, hnoplan, -, hnostroke, -⟩ := endPhase_spec (withdrawPhaseWork u) .cancelled ph r rest
    (by simp [hphase]) (by simp [hqueue])
  have hemptied : (cancelEmptied s).dose = (endPhase .cancelled (withdrawPhaseWork u)).dose ∧
      (cancelEmptied s).dosing = (endPhase .cancelled (withdrawPhaseWork u)).dosing := by
    simp only [cancelEmptied, ← hu, hstate, if_true, habandon]
    split <;> simp
  rw [cancelProgram_eq, (cancelLeaves_keeps _).1, (cancelLeaves_keeps _).2, hemptied.1, hemptied.2]
  exact ⟨hnoplan, hnostroke, by simp [hdosing, hget]⟩

@[simp] theorem cancelProgram_state (s : State) :
    (cancelProgram s).prog.state = if s.prog.tankWet = true then .cancelling else .idle := by
  rw [cancelProgram_eq, (cancelLeaves_spec _).1, (cancelEmptied_keepsProg s).2.2.2]

/-- With no phase running the end of an event begins no stroke (R120). -/
theorem finish_stroke_of_no_phase {s : State} (h : runningPhase s = none) :
    (finish s).dosing.stroke = s.dosing.stroke := by
  obtain ⟨q, -, he⟩ := finish_of_no_phase s h
  rw [he, followOutputs_dosing]
  simp only [stopRunOuts]
  split <;> rfl

/-- Outside the forced layer the run-out goes on after CANCEL, and its pump with it (R121). -/
theorem finish_cancelProgram_of_stroke {s : State} {r : PhaseRecord} {ph : RunningPhase} {p : DosePlan} {t : Nat}
    (h : StrokeRuns s r ph p t) (hfree : forcedOff s = false) :
    (finish (cancelProgram s)).dose.plan = none ∧ (finish (cancelProgram s)).dosing.stroke = none ∧
      ((finish (cancelProgram s)).dosing.get p.reservoir).runOut = some t ∧
      pumpFinal (finish (cancelProgram s)) p.reservoir = true := by
  obtain ⟨hnoplan, hnostroke, hrunOut⟩ := cancelProgram_of_stroke h
  have hidle : runningPhase (cancelProgram s) = none := runningPhase_of_not_running (by
    rw [cancelProgram_state]
    split <;> simp)
  obtain ⟨-, -, hdose, -⟩ := finish_leaves _ hidle
  have hfree₁ : forcedOff (cancelProgram s) = false := (forcedOff_congr (by simp) (by simp)).trans hfree
  have hfree₂ : forcedOff (finish (cancelProgram s)) = false := (forcedOff_congr (by simp) (by simp)).trans hfree
  have hrunOut' : ((finish (cancelProgram s)).dosing.get p.reservoir).runOut = some t := by
    simp [finish_get, hfree₁, hrunOut]
  exact ⟨by rw [hdose, hnoplan], by rw [finish_stroke_of_no_phase hidle, hnostroke], hrunOut',
    by simp [pumpFinal, hfree₂, pumpDemand, hrunOut']⟩

/-- A completed drain moves the program on in CANCELLING alone (R68, spec/01 R14). -/
theorem completeDrain_state {s : State} (h : s.prog.state ≠ .cancelling) :
    (completeDrain s).prog.state = s.prog.state := by
  simp only [completeDrain]
  repeat' split
  all_goals simp_all

/-- The softener's abort moves the program on by the drain that it completes, if at all (R71, R90). -/
theorem abortRegen_state {s : State} (h : s.prog.state ≠ .cancelling) :
    (abortRegen s).prog.state = s.prog.state := by
  have hafter : ∀ u : State, u.prog.state = s.prog.state → (afterRegen true u).prog.state = s.prog.state := by
    intro u hu
    simp only [afterRegen, endExtension]
    repeat' split
    all_goals simp_all [completeDrain_state]
  simp only [abortRegen]
  split
  · simp
  · exact hafter _ rfl
  · exact hafter _ (by simp)
  all_goals rfl

@[simp] theorem raiseAll_ring (k : NoticeKind) (s : State) : (raiseAll k s).notes.ring = s.notes.ring := rfl

/-- A placed result is the newest of the ring (R194). -/
theorem placeResult_getLast? (x : ResultRecord) (s : State) :
    (placeResult x s).notes.ring.getLast? = some { x with sequence := s.notes.next } := by
  simp only [placeResult, State.onNotes_notes]
  rw [List.getLast?_drop, if_neg (by simp only [List.length_append, List.length_singleton]; omega)]
  exact List.getLast?_concat

/-- The result of an ended phase is the newest of the ring (R28, R194). -/
theorem endPhase_getLast? (e : PhaseEnding) {s : State} {r : PhaseRecord} {ph : RunningPhase} {rest : List PhaseRecord}
    (hphase : s.prog.phase = some ph) (hqueue : s.prog.queue = r :: rest) :
    (endPhase e s).notes.ring.getLast? = some { runningResult e r ph s with sequence := s.notes.next } := by
  simp only [endPhase, hphase, hqueue]
  split <;> simp [placeResult_getLast?]

/-- The dose part of a dosed plan's reservoir (R28). -/
theorem dosePart_of_plan {s : State} {p : DosePlan} {a : DoseAmounts} (hplan : s.dose.plan = some p)
    (hdosed : p.amounts = some a) :
    dosePart p.reservoir s = some ⟨p.planned, p.delivered, p.shortfall, p.withdrawn, a.plan⟩ := by
  simp [dosePart, hplan, hdosed]

/-- A running program that is faulted ends its phase FAULTED, with its work withdrawn (R5, R16). -/
theorem faultProgram_eq_endPhase {s : State} (hstate : s.prog.state = .running) :
    faultProgram s = endPhase .faulted ((withdrawPhaseWork s).onProg fun p =>
      { p with state := .faulted, arm := false, delay := none }) := by
  simp [faultProgram, hstate]

/-- A program faulted in DOSING with a stroke in flight hands its counts over and leaves no plan (R28, R121). -/
theorem faultProgram_of_stroke {s : State} {r : PhaseRecord} {ph : RunningPhase} {p : DosePlan} {t : Nat}
    (h : StrokeRuns s r ph p t) :
    (faultProgram s).dose.plan = none ∧ (faultProgram s).dosing.stroke = none ∧ handsOver r p (faultProgram s) := by
  obtain ⟨hstate, hphase, rest, hqueue⟩ := runningPhase_parts h.running
  obtain ⟨u, hu⟩ : ∃ u, u = (withdrawPhaseWork s).onProg fun p =>
    { p with state := .faulted, arm := false, delay := none } := ⟨_, rfl⟩
  have hphase' : u.prog.phase = some ph := by simp [hu, hphase]
  have hqueue' : u.prog.queue = r :: rest := by simp [hu, hqueue]
  obtain ⟨hdose, -⟩ := withdrawPhaseWork_of_dosing h.running h.stage
  obtain ⟨hcounts, -⟩ := withdrawStrokes_of_stroke h.plan h.stroke
  have hplan : u.dose.plan = some p.cutShort := by simp [hu, hdose, hcounts]
  obtain ⟨-, -, -, -, -, hnoplan, -, hnostroke, -⟩ := endPhase_spec u .faulted ph r rest hphase' hqueue'
  rw [faultProgram_eq_endPhase hstate, ← hu]
  refine ⟨hnoplan, hnostroke, _, endPhase_getLast? .faulted hphase' hqueue', rfl, rfl, fun a hdosed => ?_⟩
  have hpart := dosePart_of_plan hplan hdosed
  cases hreservoir : p.reservoir <;> simpa [runningResult, DosePlan.cutShort, hreservoir] using hpart

/-! #### The leak in DOSING (spec/08 R162) -/

/-- The leak's onset up to the program's fault: the input, the response, the fault log and the notices (R162). -/
def leakTaken (s : State) : State :=
  beginCondition .leak (fun c => { c with leak := true }) (logFault .leak .outputSupervisor (some (modeDetail s))
    ((setDebounced .leak true (wakeUp .leak s)).onSup fun u => { u with leak := .active }))

theorem exec_leakOnset {s : State} (hleak : s.mon.leak.state = false) :
    exec .leakOnset s = .next (finish (abortRegen (leakFaults (leakTaken s)))) :=
  congrArg Host.Outcome.next (if_neg (by simp [reads, Monitor.get, hleak]))

/-- In a part that is awake the leak's onset moves neither the program nor its strokes by itself (R162). -/
theorem leakTaken_of_awake {s : State} (hmode : s.sup.mode ≠ .quiet) :
    (leakTaken s).prog = s.prog ∧ (leakTaken s).dose = s.dose ∧ (leakTaken s).dosing = s.dosing ∧
      (leakTaken s).sup.leak = .active := by
  simp [leakTaken, wakeUp_of_awake hmode]

/-- The leak that finds a phase in DOSING with a stroke in flight (R121, R157, R162): the counts are handed over, and the
forced layer ends the run-out. -/
theorem leakOnset_of_stroke {s : State} {r : PhaseRecord} {ph : RunningPhase} {p : DosePlan} {t : Nat}
    (h : StrokeRuns s r ph p t) (hleak : s.mon.leak.state = false) (hmode : s.sup.mode ≠ .quiet) :
    ∃ u, exec .leakOnset s = .next u ∧ u.prog.state = .faulted ∧ u.dose.plan = none ∧ u.dosing.stroke = none ∧
      (∀ q, (u.dosing.get q).runOut = none) ∧ pumpFinal u p.reservoir = false ∧ handsOver r p u := by
  obtain ⟨hprog, hdose, hdosing, hactive⟩ := leakTaken_of_awake hmode
  have hrun : runningPhase (leakTaken s) = some (r, ph) := by
    rw [runningPhase, hprog]
    exact h.running
  obtain ⟨hnoplan, hnostroke, hresult⟩ :=
    faultProgram_of_stroke ⟨hrun, h.stage, hdose ▸ h.plan, hdosing ▸ h.stroke⟩
  obtain ⟨hfaulted, -⟩ := faultProgram_of_running hrun
  have hfaults : leakFaults (leakTaken s) = faultProgram (leakTaken s) := by
    simp [leakFaults, (runningPhase_parts hrun).1]
  obtain ⟨w, hw⟩ : ∃ w, w = abortRegen (faultProgram (leakTaken s)) := ⟨_, rfl⟩
  have hstate : w.prog.state = .faulted := by rw [hw, abortRegen_state (by simp [hfaulted]), hfaulted]
  have hidle : runningPhase w = none := runningPhase_of_not_running (by simp [hstate])
  have hforced : ∀ u : State, u.sup = w.sup → forcedOff u = true := by
    intro u hu
    simp [forcedOff, leakActive, hu, hw, hactive]
  obtain ⟨hnotes, -, hdose', -, hstate', -⟩ := finish_leaves w hidle
  refine ⟨finish w, by rw [exec_leakOnset hleak, hfaults, ← hw], hstate'.trans hstate, ?_, ?_, fun q => ?_, ?_, ?_⟩
  · rw [hdose', hw]
    simpa using hnoplan
  · rw [finish_stroke_of_no_phase hidle, hw]
    simpa using hnostroke
  · simp [finish_get, hforced w rfl]
  · simp [pumpFinal, hforced (finish w) (by simp)]
  · have hkept : (finish w).notes = (faultProgram (leakTaken s)).notes := hnotes.trans (by simp [hw])
    rw [handsOver, hkept]
    exact hresult

/-! #### The obligation -/

/-- Settles O30: pulses, timeouts, the withdrawal, and the two ends of a phase in DOSING. -/
theorem strokesEndByPulseOrTimeout : Obligations.StrokesEndByPulseOrTimeout := by
  unfold Obligations.StrokesEndByPulseOrTimeout
  refine ⟨fun r s => ⟨fun hflight => ?_, fun p hplan _ => ?_, fun hflight hruns => ?_,
      fun hflight hruns hover => ?_, fun hflight hruns hover => ?_⟩,
    fun r s => ⟨fun hstill => ?_, fun hflight hruns => ?_, fun hpump hflight hleads => ?_,
      fun p hplan => strokeTimedOut_spec r hplan, fun t hpump hruns hleads => ?_⟩,
    fun s p t hplan hstroke => ?_, fun s p hplan hstroke => withdrawStrokes_of_idle hplan hstroke,
    fun s hplan => by simp [withdrawStrokes, hplan],
    fun s r ph p t hrun hstage hplan hstroke => ⟨fun port hreach hfree => ?_, fun hleak hmode =>
      leakOnset_of_stroke ⟨hrun, hstage, hplan, hstroke⟩ hleak hmode⟩⟩
  · rw [exec_strokePulse, if_pos hflight]
    rfl
  · obtain ⟨hcounted, hnone, hget⟩ := deliverStroke_spec hplan
    refine ⟨hnone, hcounted, by simp [hget, chargeStroke_eq], fun q => ?_⟩
    rw [hget]
    split <;> simp [chargeStroke_eq]
  · rw [exec_strokePulse, if_neg (by simp [hflight]), if_pos (Option.isSome_iff_ne_none.2 hruns)]
    rfl
  · rw [exec_strokePulse, if_neg (by simp [hflight]), if_neg (by simp [hruns]), if_pos hover,
      funext (serviceStroke_eq (s.cal.vs r))]
  · rw [exec_strokePulse, if_neg (by simp [hflight]), if_neg (by simp [hruns]), if_neg (by simp [hover])]
  · rw [exec_strokeTimeout, if_pos hstill]
  · have hlags : ¬ runOutLeads r s = true := by simp [runOutLeads_iff, hruns]
    rw [exec_strokeTimeout, if_neg hlags, if_neg (c := strokeInFlight s r = true) (by simp [hflight]), ite_self]
  · have hlags : ¬ runOutLeads r s = true := by
      rw [runOutLeads_iff]
      rintro ⟨t, hruns, hhigher⟩
      obtain ⟨x, hx⟩ := Option.isSome_iff_exists.1 (Bool.and_eq_true_iff.1 hflight).1
      have hlower := hleads x t hx hruns
      have hnotLower := hhigher hflight x hx
      omega
    rw [exec_strokeTimeout, if_neg (by simp [hpump]), if_neg hlags, if_pos hflight]
  · have hexec : exec (.strokeTimeout r) s = .next (finish (setPumpFault r none (endRunOut r s))) := by
      rw [exec_strokeTimeout, if_neg (by simp [hpump]), if_pos ((runOutLeads_iff r s).2 ⟨t, hruns, hleads⟩)]
    obtain ⟨hfault, hended, haccount⟩ := runOut_timedOut r s
    refine ⟨hexec, by simp, by simp, _, hexec, hfault, hended, haccount, ?_, ?_, ?_⟩
    all_goals simp [endRunOut]
  · obtain ⟨hcounted, hnone, hget⟩ := withdrawStrokes_of_stroke hplan hstroke
    refine ⟨hcounted, hnone, by simp [hget], by simp [hget, chargeStroke_eq], fun q hq => by simp [hget, hq]⟩
  · have howner : ownerCancel s = (finish (cancelProgram s), Reply.ok) := by
      simp [ownerCancel, (runningPhase_parts hrun).1]
    exact ⟨_, next_serve hreach howner, finish_cancelProgram_of_stroke ⟨hrun, hstage, hplan, hstroke⟩ hfree⟩

end Sys2Proof.Machine
end

section
/-!
PROOFS, settings and the record store (spec/09). The calibration items and the checks of WRITE CALIBRATION, the write of
the record, and what a reset forms.
-/

namespace Sys2Proof.Machine

/-! ### The calibration items (R175, Table 9-2) -/

theorem perSlot_iff (item : Nat) : perSlot item = true ↔ 31 ≤ item ∧ item ≤ 33 := by
  simp only [perSlot, Bool.or_eq_true, beq_iff_eq]
  omega

theorem namedItem_iff (item : Byte) : namedItem item.toNat = true ↔ item = 36 ∨ item = 37 := by
  simp [namedItem, ← BitVec.toNat_inj]

theorem calRange_of_named {item : Nat} (h : namedItem item = true) (slot : Nat) : calRange item slot = some (0, 1) := by
  simp only [namedItem, Bool.or_eq_true, beq_iff_eq] at h
  rcases h with rfl | rfl <;> rfl

/-- Every range of Table 9-2 has its lower end first, and belongs to an item up to 37. -/
theorem calRange_bounds {item slot lo hi : Nat} (h : calRange item slot = some (lo, hi)) : lo ≤ hi ∧ item ≤ 37 := by
  unfold calRange at h
  split at h <;> simp only [Option.some.injEq, Prod.mk.injEq, reduceCtorEq] at h
  case h_30 =>
    split at h <;> cases h <;> omega
  all_goals omega

/-! #### Reading and storing an item -/

theorem setSlot_of_lt {slot : Nat} (h : slot < 8) (c : Settings) (f : Slot → Slot) :
    setSlot c slot f = { c with slots := c.slots.set slot (f c.slots[slot]) } := by
  simp [setSlot, h]

theorem setSlot_same {c : Settings} {slot : Nat} {f : Slot → Slot} (hslot : slot < 8)
    (h : f c.slots[slot] = c.slots[slot]) : setSlot c slot f = c := by
  rw [setSlot_of_lt hslot, h, Vector.set_getElem_self]

/-- An item stored with the value it has changes nothing. -/
theorem calStore_calValue (c : Settings) (item : Nat) {slot : Nat} (hslot : perSlot item = true → slot ≤ 7) :
    calStore c item slot (calValue c item slot) = c := by
  unfold calValue
  split
  case h_32 | h_33 | h_34 =>
    have hlt : slot < 8 := Nat.lt_succ_of_le (hslot rfl)
    simp only [calStore]
    exact setSlot_same hlt (by simp [hlt])
  case h_37 =>
    obtain ⟨⟩ := c
    cases ‹Polarity› <;> rfl
  case h_38 =>
    obtain ⟨⟩ := c
    cases ‹DrainPolicy› <;> rfl
  case h_39 => simp [calStore, *]
  all_goals rfl

/-! #### The checks of R175 -/

/-- A slot above 7 of a per-slot item is out of range. -/
theorem calCheck_of_no_slot {item slot : Nat} (hper : perSlot item = true) (hslot : 7 < slot) (c : Settings) (v : Nat) :
    calCheck c item slot v = none := by
  unfold calCheck
  split
  · rfl
  · exact if_pos ⟨hper, hslot⟩

/-- A value that is no name of a named item is out of range. -/
theorem calCheck_of_no_name {item v : Nat} (hnamed : namedItem item = true) (hv : 1 < v) (c : Settings) (slot : Nat) :
    calCheck c item slot v = none := by
  simp [calCheck, calRange_of_named hnamed, hnamed, hv]

/-- A value of an item in its slot is held to the range and stored if the relation holds. -/
theorem calCheck_of_range {c : Settings} {item slot lo hi v : Nat} (hrange : calRange item slot = some (lo, hi))
    (hslot : perSlot item = true → slot ≤ 7) (hname : namedItem item = true → v ≤ 1) :
    calCheck c item slot v =
      if calRelation (calStore c item slot (max lo (min hi v))) item = true then
        some (max lo (min hi v), (clampTo v lo hi).2)
      else none := by
  have hinSlot : ¬ (perSlot item = true ∧ 7 < slot) := fun ⟨hper, hgt⟩ => absurd (hslot hper) (by omega)
  have hisName : ¬ (namedItem item = true ∧ hi < v) := by
    rintro ⟨hnamed, hgt⟩
    rw [calRange_of_named hnamed] at hrange
    cases hrange
    exact absurd (hname hnamed) (by omega)
  have hfst := clampTo_fst v (calRange_bounds hrange).1
  simp only [calCheck, hrange, if_neg hinSlot, if_neg hisName, hfst]
  rw [← hfst]

/-! #### The request -/

theorem ownerWriteCalibration_refused {p : Port} {item slot : Byte} {value : Word32} {s : State}
    (h : calCheck s.cal item.toNat slot.toNat value.toNat = none) :
    ownerWriteCalibration p item slot value s = (s, Reply.refused .range) := by
  simp [ownerWriteCalibration, h]

/-- A value that passes the checks is stored, with its effect and the notices of a change when it is a new one. -/
theorem ownerWriteCalibration_stored {p : Port} {item slot : Byte} {value : Word32} {s : State} {v : Nat} {clamped : Bool}
    (h : calCheck s.cal item.toNat slot.toNat value.toNat = some (v, clamped))
    (hslot : perSlot item.toNat = true → slot.toNat ≤ 7) :
    ownerWriteCalibration p item slot value s =
      (if v = calValue s.cal item.toNat slot.toNat then s
       else settingChanged p (calEffect item.toNat { s with cal := calStore s.cal item.toNat slot.toNat v }),
       Reply.okOr clamped) := by
  simp only [ownerWriteCalibration, h]
  split
  · rename_i hsame
    simp [hsame, calStore_calValue _ _ hslot, State.onCal]
  · rfl

theorem okOr_clampTo (v lo hi : Nat) :
    Reply.okOr (clampTo v lo hi).2 = if v < lo ∨ hi < v then Reply.clamped else Reply.ok := by
  rw [Reply.okOr]
  exact ite_congr (propext (clampTo_snd v lo hi)) (fun _ => rfl) fun _ => rfl

theorem exec_writeCalibration_refused {item slot : Byte} {value : Word32} {s : State}
    (hreach : reaches .service .serviceOnly s) (h : calCheck s.cal item.toNat slot.toNat value.toNat = none) :
    exec (.writeCalibration .service item slot value) s = .next (answer .service (Reply.refused .range) s) :=
  next_serve hreach (ownerWriteCalibration_refused h)

/-! ### The immediate effects (Table 9-2) -/

theorem checkThreshold_eq (s : State) : checkThreshold s = { s with soft := { s.soft with
    state := if s.soft.state = .idle ∧ s.soft.c < thresholdT s then .pending else s.soft.state } } := by
  simp only [checkThreshold]
  split <;> rfl

/-- An item outside this list has no immediate effect. -/
theorem calEffect_of_other {item : Nat} (h : item ∉ [4, 5, 10, 25, 26, 29, 30, 34, 36, 37]) (s : State) :
    calEffect item s = s := by
  unfold calEffect
  split
  case h_11 => rfl
  all_goals exact absurd (by decide) h

/-! #### A new leak polarity (spec/08 R155) -/

@[simp] theorem NoticeSet.count_remove (n : NoticeSet) (k l : NoticeKind) :
    (n.remove k).count l = if l = k then 0 else n.count l := by
  simp only [NoticeSet.count, NoticeSet.remove]
  split
  · rename_i h
    simp [h]
  · rename_i h
    have hbit : k.bit.val ≠ l.bit.val := fun e => h (NoticeKind.bit_inj (Fin.ext e)).symm
    exact Vector.getElem_set_ne _ _ hbit

/-- The leak input, the leak response and the notices after a new polarity, before the outputs follow. -/
def polarityChanged (s : State) : State :=
  { s with
    mon := { s.mon with leak := { s.mon.leak with state := false, timer := 0 } }
    sup := { s.sup with
      leak := if leakPresent s = true ∧ s.sup.leak = .active then .afterRun 60000 else s.sup.leak }
    notes := { s.notes with
      panel := s.notes.panel.remove .leak
      link := s.notes.link.remove .leak
      service := s.notes.service.remove .leak
      conditions := if leakPresent s = true then { s.notes.conditions with leak := false } else s.notes.conditions } }

theorem changePolarity_eq (s : State) : changePolarity s = finish (polarityChanged s) := by
  unfold changePolarity polarityChanged
  cases hpresent : leakPresent s
  · simp [State.onMon, State.onNotes]
  · by_cases hactive : s.sup.leak = .active <;>
      simp [hactive, State.onMon, State.onNotes, endCondition, startAfterRun, State.onSup]

@[simp] theorem polarityChanged_count (s : State) (p : Port) (k : NoticeKind) :
    ((polarityChanged s).notes.get p).count k = if k = .leak then 0 else (s.notes.get p).count k := by
  cases p <;> exact NoticeSet.count_remove _ _ _

/-- A new leak polarity clears the debounced state and takes LEAK from every set; a leak that was present ends, its
response passing to the after-run (R155). -/
theorem changePolarity_spec (s : State) :
    leakPresent (changePolarity s) = false ∧ (changePolarity s).mon.leak.raw = s.mon.leak.raw ∧
      (changePolarity s).sup = { s.sup with
        leak := if leakPresent s = true ∧ s.sup.leak = .active then .afterRun 60000 else s.sup.leak } ∧
      (runningPhase s = none →
        (leakPresent s = true → (changePolarity s).notes.conditions.leak = false) ∧
        (∀ p k, ((changePolarity s).notes.get p).count k = if k = .leak then 0 else (s.notes.get p).count k) ∧
        (changePolarity s).notes.log = s.notes.log) := by
  rw [changePolarity_eq]
  refine ⟨?_, ?_, ?_, fun hidle => ?_⟩
  · simp [leakPresent, polarityChanged]
  · simp [polarityChanged]
  · simp [polarityChanged]
  · obtain ⟨hnotes, -⟩ := finish_leaves (polarityChanged s) hidle
    rw [hnotes]
    refine ⟨fun hpresent => ?_, polarityChanged_count s, rfl⟩
    simp [polarityChanged, hpresent]

/-- Settles O48: the checks of R175 one after the other, then one effect after the other. -/
theorem writeCalibrationChecksThenStores : Obligations.WriteCalibrationChecksThenStores := by
  unfold Obligations.WriteCalibrationChecksThenStores
  refine ⟨fun item slot value s hreach => ⟨fun hrange => ?_, fun h31 h33 hgt => ?_, fun hnamed hgt => ?_,
      fun lo hi hrange hslot hname => ?_⟩,
    fun s => ⟨checkThreshold_eq _, checkThreshold_eq s, rfl, rfl, rfl, rfl, rfl, rfl, rfl, changePolarity_spec s,
      fun item hother => calEffect_of_other hother s⟩⟩
  · exact exec_writeCalibration_refused hreach (by simp [calCheck, hrange])
  · exact exec_writeCalibration_refused hreach (calCheck_of_no_slot ((perSlot_iff _).2 ⟨h31, h33⟩) hgt _ _)
  · exact exec_writeCalibration_refused hreach (calCheck_of_no_name ((namedItem_iff item).2 hnamed) hgt _ _)
  · have hslot' : perSlot item.toNat = true → slot.toNat ≤ 7 := fun h => (perSlot_iff _).1 h |>.elim hslot
    have hcheck := calCheck_of_range (c := s.cal) hrange hslot' fun h => hname ((namedItem_iff item).1 h)
    refine ⟨fun hbroken => exec_writeCalibration_refused hreach ?_, fun hkept => ?_⟩
    · rw [hcheck, if_neg (by simp [hbroken])]
    · rw [if_pos hkept] at hcheck
      rw [← okOr_clampTo]
      exact next_serve hreach (ownerWriteCalibration_stored hcheck hslot')

end Sys2Proof.Machine
end

section
namespace Sys2Proof.Machine

/-! ### O47: SET HARDNESS and SET RINSE LEVEL -/

/-- A changed setting raises SETTING_CHANGED on the two ports it was not made on (R177). -/
theorem settingChanged_count (p q : Port) (k : NoticeKind) (s : State) :
    ((settingChanged p s).notes.get q).count k =
      if k = .settingChanged ∧ q ≠ p then min 15 ((s.notes.get q).count k + 1) else (s.notes.get q).count k := by
  cases p <;> cases q <;> simp [settingChanged]

theorem settingChanged_leaves (p : Port) (s : State) :
    { settingChanged p s with notes := s.notes, store := s.store } = s := by
  simp

/-- The store of a change is the store of its checkpoint trigger (R177, R178). -/
theorem settingChanged_trigger (p : Port) (s : State) :
    ∃ u, settingChanged p s = trigger u ∧ u.store = s.store ∧ u.mon = s.mon := by
  cases p <;> exact ⟨_, rfl, rfl, rfl⟩

theorem clampTo_zero_fst (x hi : Nat) : (clampTo x 0 hi).1 = min hi x := by
  simp [clampTo_fst]

theorem okOr_clampTo_zero (x hi : Nat) :
    Reply.okOr (clampTo x 0 hi).2 = if hi < x then Reply.clamped else Reply.ok := by
  simp [okOr_clampTo]

theorem ownerSetHardness_eq (p : Port) (x : Byte) (s : State) :
    ownerSetHardness p x s =
      (if min 70 x.toNat = s.cal.hardness then s
       else settingChanged p { s with cal := { s.cal with hardness := min 70 x.toNat } },
       if 70 < x.toNat then Reply.clamped else Reply.ok) := by
  simp only [ownerSetHardness, clampTo_zero_fst, okOr_clampTo_zero]
  refine Prod.ext (ite_congr rfl (fun hsame => ?_) fun _ => rfl) rfl
  simp [hsame, State.onCal]

theorem ownerSetRinseLevel_eq (p : Port) (x : Byte) (s : State) :
    ownerSetRinseLevel p x s =
      (if min 6 x.toNat = s.cal.rinseLevel then s
       else settingChanged p { s with cal := { s.cal with rinseLevel := min 6 x.toNat } },
       if 6 < x.toNat then Reply.clamped else Reply.ok) := by
  simp only [ownerSetRinseLevel, clampTo_zero_fst, okOr_clampTo_zero]
  refine Prod.ext (ite_congr rfl (fun hsame => ?_) fun _ => rfl) rfl
  simp [hsame, State.onCal]

/-- Settles O47: the two owners, then the notices and the checkpoint of a change. -/
theorem settingRequestsHoldTheRange : Obligations.SettingRequestsHoldTheRange := by
  unfold Obligations.SettingRequestsHoldTheRange
  intro p x s hreach
  obtain ⟨u, hchange, hstore, hmon⟩ := settingChanged_trigger p s
  refine ⟨next_serve hreach (ownerSetHardness_eq p x s), next_serve hreach (ownerSetRinseLevel_eq p x s),
    fun q k => settingChanged_count p q k s, settingChanged_leaves p s, fun hfree hpower => ?_, fun hbusy => ?_⟩
  · rw [hchange, trigger_idle u (by rw [hstore, hfree]) (by rwa [powerFailing, hmon])]
    exact Option.some_ne_none _
  · rw [hchange, trigger_again u (.inl (by rwa [hstore]))]
    rfl

/-! ### O49: the write of the record -/

/-- The stored image is the one whose write has completed, and none is in flight (R178). -/
def imageStored (img : Image) (s : State) : State :=
  { s with store := { s.store with stored := some img, writing := none } }

/-- What the completion of a write leads to (R178, R179, R184). -/
theorem completeWrite_of_writing {s : State} {img : Image} (h : s.store.writing = some img) :
    completeWrite s =
      if s.store.again = true ∧ powerFailing s = false then beginWrite (freshWaiting s) (imageStored img s)
      else if s.store.restart.isSome = true then resetPart (imageStored img s)
      else imageStored img s := by
  simp only [completeWrite, h]
  rfl

theorem completeWrite_idle {s : State} (h : s.store.writing = none) : completeWrite s = s := by
  simp [completeWrite, h]

/-- With no further write to begin a completion ends the writing, and a waiting RESTART resets the part (R179, R184). -/
theorem completeWrite_last {s : State} {img : Image} (h : s.store.writing = some img)
    (hlast : s.store.again = false ∨ powerFailing s = true) :
    completeWrite s = if s.store.restart.isSome = true then resetPart (imageStored img s) else imageStored img s := by
  rw [completeWrite_of_writing h, if_neg]
  rintro ⟨hagain, hpower⟩
  rcases hlast with hlast | hlast
  · simp [hagain] at hlast
  · simp [hpower] at hlast

/-- Settles O49: the trigger, the completion, the power-fail warning, the minute. -/
theorem checkpointsWriteAndCoalesce : Obligations.CheckpointsWriteAndCoalesce := by
  unfold Obligations.CheckpointsWriteAndCoalesce
  refine ⟨fun s => ⟨fun p hreach => next_serve hreach rfl, fun hfree hpower => trigger_idle s hfree hpower,
      fun hbusy => trigger_again s hbusy, fun hfree => congrArg Host.Outcome.next (completeWrite_idle hfree),
      fun img himg => ⟨fun hagain hpower => ?_, fun hlast hnone => congrArg Host.Outcome.next ?_⟩⟩,
    fun s => ⟨⟨_, rfl, rfl, rfl, rfl⟩, rfl⟩⟩
  · have hcomplete : completeWrite s = beginWrite (freshWaiting s) (imageStored img s) := by
      rw [completeWrite_of_writing himg, if_pos ⟨hagain, hpower⟩]
    exact ⟨_, congrArg Host.Outcome.next hcomplete, rfl, rfl, rfl⟩
  · rw [completeWrite_last himg hlast, if_neg (by simp [hnone])]
    rfl

/-! ### O50: RESTART -/

/-- A first RESTART waits with its mark (R184). -/
def restartWaits (mark : Byte) (s : State) : State :=
  { s with store := { s.store with restart := some (mark.getLsbD 0) } }

theorem ownerRestart_first {s : State} (h : s.store.restart = none) (mark : Byte) :
    ownerRestart mark s = (trigger (restartWaits mark s), Reply.ok) := by
  simp [ownerRestart, h, restartWaits, State.onStore]

theorem exec_restart_again {s : State} (hreach : reaches .service .serviceOnly s) (h : s.store.restart ≠ none)
    (mark : Byte) : exec (.restart .service mark) s = .next (answer .service Reply.ok s) := by
  have hwaits : s.store.restart.isSome = true := Option.isSome_iff_ne_none.2 h
  have howner : ownerRestart mark s = (s, Reply.ok) := by simp [ownerRestart, hwaits]
  refine congrArg Host.Outcome.next ?_
  simp [serveRestart, serve_of_reaches hreach, howner, h]

/-- A first RESTART triggers its checkpoint, and resets the part at once when that begins no write (R184). -/
theorem exec_restart_first {s t : State} (hreach : reaches .service .serviceOnly s) (h : s.store.restart = none)
    {mark : Byte} (htrigger : trigger (restartWaits mark s) = t) (hwaits : t.store.restart.isSome = true) :
    exec (.restart .service mark) s =
      .next (if t.store.writing = none then resetPart (answer .service Reply.ok t) else answer .service Reply.ok t) := by
  refine congrArg Host.Outcome.next ?_
  simp [serveRestart, serve_of_reaches hreach, ownerRestart_first h, htrigger, h, hwaits]

/-- Settles O50: the second RESTART, the first with and without a write, the completion it waits for. -/
theorem restartWaitsForItsWrite : Obligations.RestartWaitsForItsWrite := by
  unfold Obligations.RestartWaitsForItsWrite
  intro mark s hreach
  refine ⟨fun hwaits => exec_restart_again hreach hwaits mark, fun hnone hbusy => ?_, fun hnone hfree hpower => ?_,
    fun hnone hfree hpower => ?_, fun img hwaits himg hlast => congrArg Host.Outcome.next ?_⟩
  · rw [exec_restart_first hreach hnone (trigger_again _ (.inl hbusy)) rfl]
    exact congrArg Host.Outcome.next (if_neg hbusy)
  · rw [exec_restart_first hreach hnone (trigger_idle _ hfree hpower) rfl]
    exact congrArg Host.Outcome.next (if_neg (Option.some_ne_none _))
  · rw [exec_restart_first hreach hnone (trigger_again _ (.inr hpower)) rfl]
    exact congrArg Host.Outcome.next (if_pos hfree)
  · rw [completeWrite_last himg hlast, if_pos (Option.isSome_iff_ne_none.2 hwaits)]
    rfl

/-! ### O51: what a reset forms -/

theorem NoticeSet.count_empty (mask : KindSet) (k : NoticeKind) : (NoticeSet.empty mask).count k = 0 := by
  simp [NoticeSet.count, NoticeSet.empty]

/-- A reset leaves every notice set empty before it raises its own kinds (R182). -/
theorem loadImage_count (img : Image) (outcome : LoadOutcome) (s : State) (p : Port) (k : NoticeKind) :
    ((loadImage img outcome s).notes.get p).count k = 0 := by
  cases p <;> exact NoticeSet.count_empty _ _

theorem resetPart_of_stored {s : State} {img : Image} (h : s.store.stored = some img) :
    resetPart s = if img.programMark = true then raiseAll .powerReturn (loadImage img .loaded s)
      else loadImage img .loaded s := by
  simp [resetPart, h]

/-- The defaults, with STORE_LOST logged and raised (R183 steps 1 and 2). -/
def defaultsLoaded (s : State) : State :=
  raiseAll .storeLost (logFault .storeLost .recordStore none (loadImage Image.defaults .defaults s))

theorem resetPart_of_lost {s : State} (h : s.store.stored = none) :
    resetPart s = beginWrite false (defaultsLoaded s) := by
  simp only [resetPart, h]
  exact trigger_idle (defaultsLoaded s) rfl rfl

theorem defaultsLoaded_count (s : State) (p : Port) (k : NoticeKind) :
    ((defaultsLoaded s).notes.get p).count k = if k = .storeLost ∨ k = .fault then 1 else 0 := by
  obtain ⟨-, -, -, hcount, -⟩ := logFault_spec .storeLost .recordStore none (loadImage Image.defaults .defaults s)
  rw [defaultsLoaded, raiseAll_count, hcount, loadImage_count]
  cases k <;> rfl

/-- The blocks that every reset forms alike (R182, R183). -/
theorem resetPart_blocks (s : State) :
    (resetPart s).prog = Program.reset ∧ (resetPart s).water = Water.reset ∧ (resetPart s).therm = Thermal.reset ∧
      (resetPart s).rod = Rod.reset s.rod.encA s.rod.encB ∧ (resetPart s).sup = Supervisor.reset ∧
      (resetPart s).mon = s.mon.unreadAll ∧ (resetPart s).ports = Ports.reset ∧ (resetPart s).notes.ring = [] ∧
      (resetPart s).notes.standing = Standing.none ∧ (resetPart s).notes.conditions = Conditions.none ∧
      (resetPart s).store.restart = none ∧ (resetPart s).pending = s.pending := by
  cases hstored : s.store.stored with
  | none =>
    rw [resetPart_of_lost hstored]
    exact ⟨rfl, rfl, rfl, rfl, rfl, rfl, rfl, rfl, rfl, rfl, rfl, rfl⟩
  | some img =>
    rw [resetPart_of_stored hstored]
    split <;> exact ⟨rfl, rfl, rfl, rfl, rfl, rfl, rfl, rfl, rfl, rfl, rfl, rfl⟩

/-- Settles O51: the blocks of every reset, then the loaded image, then the defaults. -/
theorem resetFormsEveryBlock : Obligations.ResetFormsEveryBlock := by
  unfold Obligations.ResetFormsEveryBlock
  intro s
  refine ⟨rfl, ⟨_, rfl, resetPart_blocks s⟩, fun img himg => ⟨_, rfl, ?_⟩, fun hlost => ⟨_, rfl, ?_⟩⟩
  · rw [resetPart_of_stored himg]
    cases hmark : img.programMark
    · exact ⟨rfl, rfl, rfl, rfl, rfl, rfl, rfl, rfl, rfl, rfl, rfl, rfl, rfl, rfl, rfl, rfl,
        fun p k => by simpa using loadImage_count img .loaded s p k⟩
    · exact ⟨rfl, rfl, rfl, rfl, rfl, rfl, rfl, rfl, rfl, rfl, rfl, rfl, rfl, rfl, rfl, rfl,
        fun p k => by simp [loadImage_count]⟩
  · rw [resetPart_of_lost hlost]
    exact ⟨rfl, rfl, rfl, rfl, rfl, rfl, rfl, rfl, rfl, rfl, Option.some_ne_none _, defaultsLoaded_count s⟩

/-! ### O54: the state after reset is safe -/

/-- Every default of Table 9-2 lies in its item's range, item by item and slot by slot. -/
theorem defaults_inRange {item slot lo hi : Nat} (hslot : slot ≤ 7) (h : calRange item slot = some (lo, hi)) :
    lo ≤ calValue Settings.defaults item slot ∧ calValue Settings.defaults item slot ≤ hi := by
  have hall : ∀ item : Fin 38, ∀ slot : Fin 8, (calRange item slot).all (fun r =>
      decide (r.1 ≤ calValue Settings.defaults item slot ∧ calValue Settings.defaults item slot ≤ r.2)) = true := by
    decide
  have hitem := (calRange_bounds h).2
  simpa [h] using hall ⟨item, by omega⟩ ⟨slot, by omega⟩

theorem defaults_sound : Settings.defaults.sound :=
  ⟨by decide, by decide, fun _ _ _ _ hslot h => defaults_inRange hslot h, by decide, by decide, by decide, by decide,
    by decide, by decide⟩

theorem reset_notesSound : notesSound State.reset := by
  have hcounts : ∀ mask, NoticeSet.sound ⟨storeLostCounts, mask⟩ := fun _ =>
    show ∀ k : Fin 18, storeLostCounts[k] ≤ 15 by decide
  refine ⟨⟨hcounts _, hcounts _, hcounts _, by decide, by decide, fun i h => absurd h (Nat.not_lt_zero i)⟩, ?_, ?_⟩
  · rintro _ ⟨⟩
  · rintro _ ⟨⟩
    decide

theorem reset_queueSound : queueSound State.reset := by
  refine ⟨Nat.zero_le _, ?_⟩
  rintro _ ⟨⟩

/-- The live items and the image in flight are the defaults; nothing is stored. -/
theorem reset_recordSound : recordSound State.reset := by
  have hvalues : valuesSound Settings.defaults 0 0 0 0 0 := by
    unfold valuesSound
    decide
  refine ⟨defaults_sound, hvalues, ?_, ?_⟩
  · rintro _ ⟨⟩
  · rintro _ ⟨⟩
    exact ⟨defaults_sound, hvalues⟩

/-- No fill, and no result, stands. -/
theorem reset_fillsExact : fillsExact State.reset := by
  refine ⟨?_, ?_, ?_⟩
  · rintro _ ⟨⟩
  · rintro _ _ ⟨⟩
  · rintro _ ⟨⟩

/-- No plan, no stroke and no result stands. -/
theorem reset_strokesCounted : strokesCounted State.reset := by
  refine ⟨?_, fun h => absurd rfl h, ?_⟩ <;> rintro _ ⟨⟩

/-- The part is in NORMAL with no override, and the hold is free. -/
theorem reset_serviceConfined : serviceConfined State.reset := by
  refine ⟨fun _ => rfl, ?_, ?_, fun _ => rfl⟩ <;> rintro ⟨⟩

/-- No motion is in progress. -/
theorem reset_outwardConfined : outwardConfined State.reset := by
  rintro _ ⟨⟩

/-- Neither leak nor inhibit presents, and the response is NONE. -/
theorem reset_leakTracked : leakTracked State.reset := by
  refine ⟨by decide, rfl, rfl, ?_, fun _ => rfl, fun _ => rfl⟩
  rintro (h | h) <;> cases h

/-- Settles O54: one property after the other. -/
theorem resetIsSafe : Obligations.ResetIsSafe :=
  ⟨reset_notesSound, reset_queueSound, reset_recordSound, reset_fillsExact, reset_strokesCounted, reset_serviceConfined,
    reset_outwardConfined, reset_leakTracked⟩

end Sys2Proof.Machine
end

section
/-!
PROOFS, the client ports (spec/11, spec/08 R168): one port, the requests that are only answered, the receiver, the
receive buffer, the requests of the line.
-/

namespace Sys2Proof.Machine

/-! ### One port of the port controller -/

@[simp] theorem Ports.set_set (x : Ports) (p : Port) (y z : PortState) : (x.set p y).set p z = x.set p z := by
  cases p <;> rfl

@[simp] theorem Ports.set_get (x : Ports) (p : Port) : x.set p (x.get p) = x := by
  cases p <;> rfl

@[simp] theorem onPort_get (p : Port) (f : PortState → PortState) (s : State) :
    (onPort p f s).ports.get p = f (s.ports.get p) := by
  simp [onPort]

@[simp] theorem onPort_onPort (p : Port) (f g : PortState → PortState) (s : State) :
    onPort p g (onPort p f s) = onPort p (fun x => g (f x)) s := by
  simp [onPort, State.onPorts]

/-- Two updates that agree on the port's present state lead to the same state. -/
theorem onPort_congr {p : Port} {f g : PortState → PortState} {s : State} (h : f (s.ports.get p) = g (s.ports.get p)) :
    onPort p f s = onPort p g s := by
  simp [onPort, State.onPorts, h]

/-- An update that leaves the port as it is leaves the part as it is. -/
theorem onPort_eq_self {p : Port} {f : PortState → PortState} {s : State} (h : f (s.ports.get p) = s.ports.get p) :
    onPort p f s = s := by
  simp [onPort, State.onPorts, h]

/-! ### O3: requests that are only answered -/

/-- Check 3 of R199 comes before every other. -/
theorem serve_denied {p : Port} {perm : Permission} (h : perm.allows p = false) (owner : State → State × Reply)
    (s : State) : serve p perm owner s = answer p ⟨.denied, false, 0, []⟩ s := if_pos h

/-- Check 4 of R199. -/
theorem serve_held {p : Port} {perm : Permission} {s : State} (hallows : perm.allows p = true)
    (hbars : holdBars p perm s) (owner : State → State × Reply) :
    serve p perm owner s = answer p ⟨.held, false, 0, []⟩ s :=
  (if_neg (by simp [hallows])).trans (if_pos hbars)

/-- A link port that is no wake source wakes no part in QUIET (R168). -/
theorem serve_link_quiet {perm : Permission} {s : State} (hallows : perm.allows .link = true)
    (hacting : perm.acting = true) (hhold : s.ports.hold = false) (hquiet : s.sup.mode = .quiet)
    (hwake : s.sup.wake.link = false) (owner : State → State × Reply) :
    serve .link perm owner s = answer .link (Reply.refused .mode) s := by
  rw [serve, if_neg (by simp [hallows]), if_neg (by simp [hhold]), if_pos ⟨hacting, hquiet, rfl, hwake⟩]

/-- A RESTART that is only answered begins no reset. -/
theorem serveRestart_of_answer {p : Port} {mark : Byte} {r : Reply} {s : State}
    (h : serve p .serviceOnly (ownerRestart mark) s = answer p r s) : serveRestart p mark s = answer p r s := by
  have hstore : (answer p r s).store = s.store := rfl
  simp only [serveRestart, h, hstore]
  cases s.store.restart <;> rfl

/-- A request that is answered whatever its owner does is only answered. -/
theorem exec_eq_answer {c : Instr} {p : Port} {perm : Permission} {r : Reply} {s : State}
    (hrequest : requestOf c = some (p, perm)) (hserve : ∀ owner, serve p perm owner s = answer p r s) :
    exec c s = .next (answer p r s) := by
  cases c <;> cases hrequest
  case restart => exact congrArg Host.Outcome.next (serveRestart_of_answer (hserve _))
  all_goals exact congrArg Host.Outcome.next (hserve _)

/-- Settles O3: DENIED, HELD, and the refusal in QUIET, each from its branch of `serve`. -/
theorem barredRequestsOnlyAnswer : Obligations.BarredRequestsOnlyAnswer :=
  ⟨fun _ _ _ s hrequest hdenied => exec_eq_answer hrequest fun owner => serve_denied hdenied owner s,
    fun _ _ _ _ hrequest hallows hbars => exec_eq_answer hrequest (serve_held hallows hbars),
    fun _ _ _ hrequest hallows hacting hhold hquiet hwake =>
      exec_eq_answer hrequest (serve_link_quiet hallows hacting hhold hquiet hwake)⟩

/-! ### O7: the receiver -/

/-- A port's receiver in a given state, everything else as it was. -/
def setReceiver (p : Port) (r : Receiver) (s : State) : State := onPort p (fun x => { x with receiver := r }) s

@[simp] theorem setReceiver_get (p : Port) (r : Receiver) (s : State) :
    (setReceiver p r s).ports.get p = { s.ports.get p with receiver := r } := onPort_get ..

@[simp] theorem setReceiver_setReceiver (p : Port) (r r' : Receiver) (s : State) :
    setReceiver p r' (setReceiver p r s) = setReceiver p r' s := onPort_onPort ..

/-- A byte that completes no frame moves the receiver and nothing else (R197). -/
theorem byteReceived_of_incomplete {p : Port} {b : Byte} {s : State} {r : Receiver}
    (h : receiveByte (s.ports.get p).receiver b = (r, none)) : byteReceived p b true s = setReceiver p r s := by
  simp [byteReceived, h, setReceiver]

theorem byteReceived_hunt {p : Port} {s : State} (h : (s.ports.get p).receiver = .hunt) (b : Byte) :
    byteReceived p b true s = setReceiver p (if b = 0xC3 then .length else .hunt) s :=
  byteReceived_of_incomplete (by rw [h]; rfl)

theorem byteReceived_length {p : Port} {s : State} (h : (s.ports.get p).receiver = .length) (b : Byte) :
    byteReceived p b true s = setReceiver p (if b = 0 ∨ 48 < b.toNat then .hunt else .body b.toNat []) s := by
  have hrange : (1 ≤ b.toNat ∧ b.toNat ≤ 48) ↔ ¬ (b = 0 ∨ 48 < b.toNat) := by
    have hzero : b = 0 ↔ b.toNat = 0 := BitVec.toNat_eq
    rw [hzero]
    omega
  refine byteReceived_of_incomplete ?_
  simp only [h, receiveByte, hrange, ite_not]

theorem byteReceived_body {p : Port} {len : Nat} {kept : List Byte} {s : State}
    (h : (s.ports.get p).receiver = .body len kept) (b : Byte) :
    byteReceived p b true s =
      setReceiver p (if kept.length + 1 = len then .check len (kept ++ [b]) else .body len (kept ++ [b])) s :=
  byteReceived_of_incomplete (by rw [h]; rfl)

theorem byteReceived_check_wrong {p : Port} {b : Byte} {len : Nat} {kept : List Byte} {s : State}
    (h : (s.ports.get p).receiver = .check len kept) (hb : b ≠ checkByte len kept) :
    byteReceived p b true s = setReceiver p .hunt s :=
  byteReceived_of_incomplete (by simp [h, receiveByte, hb])

/-- Settles O7: one clause for each state of the receiver, and the gap. -/
theorem receiverFollowsTheFrame : Obligations.ReceiverFollowsTheFrame := by
  unfold Obligations.ReceiverFollowsTheFrame
  intro p b s
  refine ⟨rfl, fun h => ?_, fun h => ?_, fun len kept h => ?_, fun len kept h hb => ?_, rfl⟩
  · exact congrArg Host.Outcome.next (byteReceived_hunt h b)
  · exact congrArg Host.Outcome.next (byteReceived_length h b)
  · exact congrArg Host.Outcome.next (byteReceived_body h b)
  · exact congrArg Host.Outcome.next (byteReceived_check_wrong h hb)

/-! ### O8: the receive buffer and the transmitter -/

theorem takeBuffered_of_empty {p : Port} {s : State} (h : (s.ports.get p).buffer = none) : takeBuffered p s = s := by
  simp [takeBuffered, h]

theorem takeBuffered_of_sending {p : Port} {s : State} (h : (s.ports.get p).answers ≠ []) : takeBuffered p s = s := by
  unfold takeBuffered
  split
  case h_1 hnil => exact absurd hnil h
  case h_2 => rfl

/-- A frame waits and the transmitter is idle: it is taken, and leaves the buffer (R198). -/
theorem takeBuffered_of_waiting {p : Port} {body : List Byte} {s : State} (hbuffer : (s.ports.get p).buffer = some body)
    (hidle : (s.ports.get p).answers = []) :
    takeBuffered p s = takeFrame p body (onPort p (fun x => { x with buffer := none }) s) := by
  simp [takeBuffered, hbuffer, hidle]

/-- The matching check byte returns the receiver to HUNT and completes the frame (R197, R198). -/
theorem byteReceived_complete {p : Port} {len : Nat} {kept : List Byte} {s : State}
    (h : (s.ports.get p).receiver = .check len kept) :
    byteReceived p (checkByte len kept) true s =
      takeBuffered p (onPort p (fun x => PortState.complete { x with receiver := .hunt } kept) s) := by
  simp [byteReceived, h, receiveByte]

theorem byteReceived_complete_lost {p : Port} {len : Nat} {kept : List Byte} {s : State}
    (h : (s.ports.get p).receiver = .check len kept) (hbuffer : (s.ports.get p).buffer ≠ none)
    (hanswers : (s.ports.get p).answers ≠ []) :
    byteReceived p (checkByte len kept) true s = onPort p (fun x => { x with receiver := .hunt, lost := true }) s := by
  obtain ⟨body, hbody⟩ := Option.ne_none_iff_exists'.1 hbuffer
  rw [byteReceived_complete h, onPort_congr (g := fun x => { x with receiver := .hunt, lost := true })
    (by simp [PortState.complete, hbody])]
  exact takeBuffered_of_sending (by simpa using hanswers)

/-- A frame that completes on an empty buffer is put there. -/
theorem byteReceived_complete_buffered {p : Port} {len : Nat} {kept : List Byte} {s : State}
    (h : (s.ports.get p).receiver = .check len kept) (hbuffer : (s.ports.get p).buffer = none) :
    byteReceived p (checkByte len kept) true s =
      takeBuffered p (onPort p (fun x => { x with receiver := .hunt, buffer := some kept }) s) := by
  rw [byteReceived_complete h, onPort_congr]
  simp [PortState.complete, hbuffer]

theorem byteReceived_complete_taken {p : Port} {len : Nat} {kept : List Byte} {s : State}
    (h : (s.ports.get p).receiver = .check len kept) (hbuffer : (s.ports.get p).buffer = none)
    (hanswers : (s.ports.get p).answers = []) :
    byteReceived p (checkByte len kept) true s =
      takeFrame p kept (onPort p (fun x => { x with receiver := .hunt, buffer := none }) s) := by
  rw [byteReceived_complete_buffered h hbuffer,
    takeBuffered_of_waiting (body := kept) (by simp) (by simpa using hanswers), onPort_onPort]

/-- The end of an answer frees the transmitter for what waits (R198). -/
theorem answerSent_of_sending {p : Port} {a : Answer} {rest : List Answer} {s : State}
    (h : (s.ports.get p).answers = a :: rest) :
    answerSent p s = takeBuffered p (onPort p (fun x => { x with answers := rest }) s) := by
  rw [answerSent, h, onPort_congr (g := fun x => { x with answers := rest }) (by simp [h])]
  rfl

/-- Settles O8: a complete frame by the buffer and the transmitter; the end of an answer by what waits. -/
theorem framesAndAnswersQueue : Obligations.FramesAndAnswersQueue := by
  unfold Obligations.FramesAndAnswersQueue
  refine ⟨fun p b len kept s hcheck hb => ?_, fun p s => ⟨fun hidle => ?_, fun a rest hanswers hwaits => ?_,
    fun a body hanswers hbuffer => ?_⟩⟩
  · obtain rfl : b = checkByte len kept := hb
    refine ⟨fun hbuffer hanswers => ?_, fun hbuffer hanswers => ?_, fun hbuffer hanswers => ?_⟩ <;>
      refine congrArg Host.Outcome.next ?_
    · exact byteReceived_complete_lost hcheck hbuffer hanswers
    · exact (byteReceived_complete_buffered hcheck hbuffer).trans (takeBuffered_of_sending (by simpa using hanswers))
    · exact byteReceived_complete_taken hcheck hbuffer hanswers
  · exact congrArg Host.Outcome.next (by simp [answerSent, hidle])
  · refine congrArg Host.Outcome.next ((answerSent_of_sending hanswers).trans ?_)
    obtain hrest | hbuffer := hwaits
    · exact takeBuffered_of_sending (by simpa using hrest)
    · exact takeBuffered_of_empty (by simpa using hbuffer)
  · refine congrArg Host.Outcome.next ((answerSent_of_sending hanswers).trans ?_)
    rw [takeBuffered_of_waiting (by simpa using hbuffer) (by simp), onPort_onPort]

end Sys2Proof.Machine
end

section
namespace Sys2Proof.Machine

/-! ### O9: the requests of the line

#### Numbers and optional fields (R202, R204) -/

/-- The low byte of a number comes first on the line (R202). -/
theorem ofNat_number_cons (w : Nat) (b : Byte) (rest : List Byte) :
    BitVec.ofNat (w + 8) (number (b :: rest)) = BitVec.ofNat w (number rest) ++ b := by
  apply BitVec.eq_of_toNat_eq
  have hb : b.toNat < 2 ^ 8 := b.isLt
  have hlow : (b.toNat + 256 * number rest) % 2 ^ 8 = b.toNat := by omega
  have hhigh : (b.toNat + 256 * number rest) / 2 ^ 8 = number rest := by omega
  rw [BitVec.toNat_append, BitVec.toNat_ofNat, BitVec.toNat_ofNat, ← Nat.shiftLeft_add_eq_or_of_lt hb,
    Nat.shiftLeft_eq, number, Nat.add_comm w, Nat.pow_add, Nat.mod_mul, hlow, hhigh]
  omega

theorem ofNat_number_one (a : Byte) : BitVec.ofNat 8 (number [a]) = a := by
  simp [number]

theorem ofNat_number_two (a b : Byte) : BitVec.ofNat 16 (number [a, b]) = b ++ a := by
  rw [ofNat_number_cons 8, ofNat_number_one]

theorem ofNat_number_three (a b c : Byte) : BitVec.ofNat 24 (number [a, b, c]) = c ++ b ++ a := by
  rw [ofNat_number_cons 16, ofNat_number_two]

theorem ofNat_number_four (a b c d : Byte) : BitVec.ofNat 32 (number [a, b, c, d]) = d ++ c ++ b ++ a := by
  rw [ofNat_number_cons 24, ofNat_number_three]

/-- A field of one byte is taken back as it was sent (Table 11-6). -/
theorem takeField_field1 (x : Option Byte) (rest : List Byte) :
    takeField x.isSome 1 (field1 x ++ rest) = some (x.map BitVec.toNat, rest) := by
  cases x <;> simp [takeField, field1, number]

theorem takeField_field2 (x : Option Half) (rest : List Byte) :
    takeField x.isSome 2 (field2 x ++ rest) = some (x.map BitVec.toNat, rest) := by
  cases x with
  | none => rfl
  | some v =>
    have hv : v.toNat % 256 + 256 * (v.toNat / 256 % 256) = v.toNat := by
      have hlt : v.toNat < 2 ^ 16 := v.isLt
      omega
    simp [takeField, field2, number, Nat.shiftRight_eq_div_pow, hv]

/-- The bytes that a field takes from the front. -/
theorem takeField_length {present : Bool} {n : Nat} {bytes rest : List Byte} {v : Option Nat}
    (h : takeField present n bytes = some (v, rest)) : bytes.length = (if present then n else 0) + rest.length := by
  unfold takeField at h
  split at h
  case isTrue hpresent =>
    split at h
    case isTrue => cases h
    case isFalse hlong =>
      cases h
      rw [if_pos hpresent, List.length_drop]
      omega
  case isFalse habsent =>
    cases h
    rw [if_neg habsent, Nat.zero_add]

theorem bitsByte_getElem (bits : List Bool) {i : Nat} (h : i < 8) : (bitsByte bits)[i] = bits.getD i false := by
  induction bits generalizing i with
  | nil => simp [bitsByte]
  | cons b bits ih =>
    have hcons : bitsByte (b :: bits) = (bitsByte bits <<< 1) ||| (if b then 1 else 0) := rfl
    cases i with
    | zero => cases b <;> simp [hcons]
    | succ i => cases b <;> simp [hcons, ih (Nat.lt_of_succ_lt h)]

/-! #### The payload of QUEUE PHASE (R204, Table 11-6) -/

theorem map_ofNat_map_toNat {w : Nat} (x : Option (BitVec w)) : (x.map BitVec.toNat).map (BitVec.ofNat w) = x := by
  cases x <;> simp

/-- QUEUE PHASE's payload spells the fields it carries. -/
theorem parsePhase_phasePayload (f : PhaseFields) : parsePhase (phasePayload f) = some f := by
  have hlast : takeField f.airing.isSome 2 (field2 f.airing) = some (f.airing.map BitVec.toNat, []) := by
    simpa using takeField_field2 f.airing []
  simp [phasePayload, parsePhase, bitsByte_getElem, takeField_field1, takeField_field2, hlast, map_ofNat_map_toNat,
    -Option.map_map]

/-- A payload that spells a phase has the length that its presence bytes imply. -/
theorem parsePhase_length {tag kind a b : Byte} {rest : List Byte} {f : PhaseFields}
    (h : parsePhase (tag :: kind :: a :: b :: rest) = some f) :
    rest.length = (if a.getLsbD 0 then 2 else 0) + (if a.getLsbD 1 then 1 else 0) + (if a.getLsbD 2 then 2 else 0) +
        (if a.getLsbD 3 then 1 else 0) + (if a.getLsbD 4 then 1 else 0) + (if a.getLsbD 5 then 1 else 0) +
        (if a.getLsbD 6 then 2 else 0) := by
  simp only [parsePhase, Option.bind_eq_bind, Option.bind_eq_some_iff, Prod.exists] at h
  obtain ⟨_, _, hfill, _, _, hheat, _, _, hhold, _, _, hzones, _, _, hlevel, _, _, hslot, _, _, hairing, hend⟩ := h
  split at hend
  case isFalse => cases hend
  case isTrue hempty =>
    rw [takeField_length hfill, takeField_length hheat, takeField_length hhold, takeField_length hzones,
      takeField_length hlevel, takeField_length hslot, takeField_length hairing, List.isEmpty_iff.1 hempty]
    simp only [List.length_nil, Nat.add_assoc, Nat.add_zero]

theorem parsePhase_of_short {payload : List Byte} (h : payload.length < 4) : parsePhase payload = none := by
  match payload with
  | [] | [_] | [_, _] | [_, _, _] => rfl

/-! #### The checks of a frame (R199 checks 1 and 2) -/

theorem parseRequest_phase {payload : List Byte} {f : PhaseFields} (h : parsePhase payload = some f) :
    parseRequest 0x10 payload = .request (.queuePhase f) := by
  simp [parseRequest, h]

theorem parseRequest_phase_format {payload : List Byte} (h : parsePhase payload = none) :
    parseRequest 0x10 payload = .format := by
  simp [parseRequest, h]

/-- Payload length by payload length and code by code: the code's own length is excluded, any other leads to FORMAT. -/
theorem parseRequest_format {code : Byte} {n : Nat} {payload : List Byte} (h : (code, n) ∈ payloadLengths)
    (hlength : payload.length ≠ n) : parseRequest code payload = .format := by
  have hall : ∀ e ∈ payloadLengths, payload.length ≠ e.2 → parseRequest e.1 payload = .format := by
    match payload with
    | [] | [_] | [_, _] | [_, _, _] | [_, _, _, _] | [_, _, _, _, _] | [_, _, _, _, _, _]
    | _ :: _ :: _ :: _ :: _ :: _ :: _ :: _ =>
      simp only [payloadLengths, List.forall_mem_cons, List.not_mem_nil, false_implies, implies_true, and_true]
      and_intros
      all_goals
        intro hother
        first | rfl | exact absurd rfl hother
  exact hall (code, n) h hlength

/-- Every branch of the parse but the last is a code of Table 11-4. -/
theorem parseRequest_unknown {code : Byte} {payload : List Byte} (hphase : code ≠ 0x10)
    (hcode : code ∉ payloadLengths.map (·.1)) : parseRequest code payload = .unknown := by
  have hother : ∀ n ∈ (0x10 :: payloadLengths.map (·.1)).map BitVec.toNat, code.toNat ≠ n := by
    intro n hn heq
    obtain ⟨c, hc, rfl⟩ := List.mem_map.1 hn
    rw [← BitVec.eq_of_toNat_eq heq] at hc
    exact (List.mem_cons.1 hc).elim hphase hcode
  unfold parseRequest
  split
  case h_14 =>
    split
    case h_33 => rfl
    all_goals exact absurd ‹code.toNat = _› (hother _ (by decide))
  all_goals exact absurd ‹code.toNat = _› (hother _ (by decide))

theorem takeFrame_format {p : Port} {code : Byte} {payload : List Byte} (h : parseRequest code payload = .format)
    (s : State) : takeFrame p (code :: payload) s = answer p ⟨.format, false, 0, []⟩ s := by
  simp [takeFrame, h]

theorem takeFrame_unknown {p : Port} {code : Byte} {payload : List Byte} (h : parseRequest code payload = .unknown)
    (s : State) : takeFrame p (code :: payload) s = answer p ⟨.unknown, false, 0, []⟩ s := by
  simp [takeFrame, h]

theorem takeFrame_request {p : Port} {code : Byte} {payload : List Byte} {r : Request}
    (h : parseRequest code payload = .request r) (s : State) :
    takeFrame p (code :: payload) s = serveRequest p r s := by
  simp [takeFrame, h]

/-! #### A frame received byte by byte (R197, Table 11-1) -/

/-- The bytes of the body but the last are kept; the last one leads to CHECK. -/
theorem foldl_byteReceived_body {p : Port} {len : Nat} {s : State} {body kept : List Byte} (hbody : body ≠ [])
    (hlen : kept.length + body.length = len) :
    body.foldl (fun t b => byteReceived p b true t) (setReceiver p (.body len kept) s) =
      setReceiver p (.check len (kept ++ body)) s := by
  induction body generalizing kept with
  | nil => exact absurd rfl hbody
  | cons b rest ih =>
    rw [List.foldl_cons, byteReceived_body (len := len) (kept := kept) (by simp), setReceiver_setReceiver]
    cases rest with
    | nil => exact congrArg (setReceiver p · s) (if_pos hlen)
    | cons c rest =>
      simp only [List.length_cons] at hlen
      rw [if_neg (by omega), ih (List.cons_ne_nil c rest) (by simp; omega), List.append_assoc]
      rfl

/-- The lead byte and the length byte of a frame bring a receiver in HUNT to the body. -/
theorem byteReceived_lead {p : Port} {n : Nat} {s : State} (hpos : 1 ≤ n) (hmax : n ≤ 48)
    (hhunt : (s.ports.get p).receiver = .hunt) :
    byteReceived p (BitVec.ofNat 8 n) true (byteReceived p 0xC3 true s) = setReceiver p (.body n []) s := by
  have hn : (BitVec.ofNat 8 n).toNat = n := by simp; omega
  have hzero : BitVec.ofNat 8 n ≠ 0 := fun h => by simp [h] at hn; omega
  rw [byteReceived_hunt hhunt, if_pos rfl, byteReceived_length (by simp), setReceiver_setReceiver, hn,
    if_neg (by simp only [hzero, false_or]; omega)]

theorem foldl_byteReceived_frameOf {p : Port} {body : List Byte} {s : State} (hpos : 1 ≤ body.length)
    (hmax : body.length ≤ 48) (hhunt : (s.ports.get p).receiver = .hunt) (hbuffer : (s.ports.get p).buffer = none)
    (hanswers : (s.ports.get p).answers = []) :
    (frameOf body).foldl (fun t b => byteReceived p b true t) s = takeFrame p body s := by
  have hbody : body ≠ [] := List.length_pos_iff.1 hpos
  simp only [frameOf, List.foldl_append, List.foldl_cons, List.foldl_nil]
  rw [byteReceived_lead hpos hmax hhunt, foldl_byteReceived_body hbody (by simp), List.nil_append,
    byteReceived_complete_taken (len := body.length) (kept := body) (by simp) (by simpa using hbuffer)
      (by simpa using hanswers), setReceiver, onPort_onPort]
  congr 1
  exact onPort_eq_self (by rw [← hhunt, ← hbuffer])

/-- Settles O9: the bodies of fixed length, QUEUE PHASE, FORMAT, UNKNOWN, and the frame's bytes. -/
theorem frameSpellsItsCommand : Obligations.FrameSpellsItsCommand := by
  unfold Obligations.FrameSpellsItsCommand
  refine ⟨fun p a b c d item slot s => ?_, fun p f s => ?_, fun p tag kind a b rest s hlength => ?_,
    fun p payload s hshort => ?_, fun p code n payload s hcode hlength => ?_,
    fun p code payload s hphase hcode => ?_, fun p body s hpos hmax hhunt hbuffer hanswers => ?_⟩
  · -- Each body is literal bytes around its operands, so its parse evaluates to the request.
    rw [← ofNat_number_four, ← ofNat_number_three, ← ofNat_number_two]
    and_intros <;> rfl
  · exact congrArg Host.Outcome.next (takeFrame_request (parseRequest_phase (parsePhase_phasePayload f)) s)
  · refine takeFrame_format (parseRequest_phase_format ?_) s
    exact Option.eq_none_iff_forall_ne_some.2 fun f hf => hlength (parsePhase_length hf)
  · exact takeFrame_format (parseRequest_phase_format (parsePhase_of_short hshort)) s
  · exact takeFrame_format (parseRequest_format hcode hlength) s
  · exact takeFrame_unknown (parseRequest_unknown hphase hcode) s
  · exact foldl_byteReceived_frameOf hpos hmax hhunt hbuffer hanswers

end Sys2Proof.Machine
end

section
namespace Sys2Proof.Machine

/-! ### O1: the step with a command waiting -/

theorem step_of_pending_cons {s : State} {c : Instr} {rest : List Instr} (h : s.pending = c :: rest) :
    step s = exec c { s with pending := rest } := by
  simp only [step, h]

/-- Settles O1: taking the front command off again leaves the state it was put on. -/
theorem stepRunsFrontCommand : Obligations.StepRunsFrontCommand := by
  unfold Obligations.StepRunsFrontCommand
  intro c s
  exact step_of_pending_cons (s := { s with pending := c :: s.pending }) rfl

end Sys2Proof.Machine
end
